-- ==== Sys2Proof/Word.lean ====
section
/-! DEFINITION. The plain types of the LB412: bytes, 16-bit words, slots, ticks. -/

namespace Sys2Proof

/-- One character of a frame or one byte of a record (R18, R184). -/
abbrev Byte := BitVec 8

/-- A 16-bit word: a scan record, a status word, a counter, a bunch number (R182, R185). -/
abbrev Word16 := BitVec 16

/-- A slot number, 0 to L−1 around the chain (00 Conventions). -/
abbrev Slot := Nat

/-- A number of 10 µs ticks (00 Conventions). -/
abbrev Ticks := Nat

end Sys2Proof
end

