-- ==== Sys2Proof/Config.lean ====
section
/-! DEFINITION. What is fixed for a running station: the configuration record in use (R172, R184),
and the free values: input levels that no row of the table reports. -/

namespace Sys2Proof

/-- One entry of the service list (05, section 5.1; R184 bytes 33 to 48). -/
structure ServiceEntry where
  /-- the length class served, 0..15 -/
  cls : Nat
  /-- B, the stems in a full bunch, 1..40 -/
  bunchSize : Nat
  /-- the least count at which an idle cradle closes short, 1..B -/
  shortMinimum : Nat
  /-- kind: primary (false) or secondary (true) -/
  secondary : Bool
  deriving DecidableEq, Repr

/-- The configuration record in use, times in ticks (R172). The fields of the other role are
not used and stand at 0 or empty (R170; log 19). -/
structure StationConfig where
  /-- bit-rate code 0, 1 or 2 (R18) -/
  bitRate : Nat
  /-- L, carriers on the chain -/
  chainLength : Nat
  /-- Pmin -/
  periodMin : Ticks
  /-- Pnom -/
  periodNominal : Ticks
  /-- Wcp -/
  cpWidth : Ticks
  /-- Wg -/
  gateWidth : Ticks
  /-- D, depth of the flight table -/
  depth : Nat
  /-- Hc, claim horizon -/
  claimHorizon : Nat
  /-- Sd, secondary service depth -/
  secondaryDepth : Nat
  /-- Gf, flap gap -/
  flapGap : Nat
  /-- Ly, yield lifetime -/
  yieldLifetime : Nat
  /-- idle limit, 0 turns the idle close off -/
  idleLimit : Nat
  /-- W -/
  pulseWidth : Ticks
  /-- Wmin -/
  pulseMinimum : Ticks
  /-- Gr -/
  releaseGuard : Ticks
  /-- Fr -/
  releaseFraction : Nat
  /-- Tf -/
  settleTime : Ticks
  /-- Cw -/
  confirmTime : Ticks
  ackLimit : Ticks
  tieLimit : Ticks
  services : List ServiceEntry
  /-- N, beams in the curtain -/
  beams : Nat
  /-- p10, beam pitch in tenths of a millimetre -/
  beamPitch : Nat
  /-- O10, grip line to beam 0 in tenths of a millimetre -/
  gripOffset : Nat
  /-- K, scans per window -/
  scanCount : Nat
  /-- Vmin -/
  validMinimum : Nat
  /-- T, greatest accepted spread -/
  spreadLimit : Nat
  /-- Fs -/
  scanStart : Nat
  /-- Fd -/
  scanStep : Nat
  /-- Rs -/
  responseLimit : Ticks
  /-- Hs -/
  stemLifetime : Nat
  /-- U -/
  runOutHorizon : Nat
  /-- the m class bounds, millimetres, ascending -/
  classBounds : List Nat
  deriving DecidableEq, Repr

/-- No configuration record: what the rules read before one is in use (R178). -/
def StationConfig.blank : StationConfig where
  bitRate := 0
  chainLength := 0
  periodMin := 0
  periodNominal := 0
  cpWidth := 0
  gateWidth := 0
  depth := 0
  claimHorizon := 0
  secondaryDepth := 0
  flapGap := 0
  yieldLifetime := 0
  idleLimit := 0
  pulseWidth := 0
  pulseMinimum := 0
  releaseGuard := 0
  releaseFraction := 0
  settleTime := 0
  confirmTime := 0
  ackLimit := 0
  tieLimit := 0
  services := []
  beams := 0
  beamPitch := 0
  gripOffset := 0
  scanCount := 0
  validMinimum := 0
  spreadLimit := 0
  scanStart := 0
  scanStep := 0
  responseLimit := 0
  stemLifetime := 0
  runOutHorizon := 0
  classBounds := []

/-- DESIGN CHOICE (log 5), safe: the level HM holds at an instant, when the part's own clock brings a
qualification and no command names the level (R3). Nothing constrains it. -/
opaque Config.homeMarkLevel : Nat → Bool

/-- DESIGN CHOICE (log 5), safe: whether SRDY is already asserted when SREQ rises at an instant, when
the part's own clock brings a scan and no command names the level (R38). -/
opaque Config.scanReadyLevel : Nat → Bool

/-- DESIGN CHOICE (log 5), safe: whether the line is seen dominant during a tick in WAIT_GAP or STUCK
in which no command reports it (R19, R29). -/
opaque Config.lineDominantLevel : Nat → Bool

end Sys2Proof
end

