-- ==== Sys2Proof/Syntax.lean ====
section
/-! DEFINITION. The commands: one constructor of `Instr` per row of spec/opcode_table.json, and the
names their operands are made of. The table gives no fields; the operands are the model's (log 9). -/

namespace Sys2Proof

/-- The role strapped at start (R168). -/
inductive Role where
  | gauge | drop
  deriving DecidableEq, Repr

/-- The two cradles of a drop station (00 Conventions). -/
inductive CradleId where
  | a | b
  deriving DecidableEq, Repr

/-- Reject reason of a STEM (02, section 2.4; R183 codes 0 to 3). -/
inductive RejectReason where
  | none | short | unmeasured | unsteady
  deriving DecidableEq, Repr

/-- Reason of a YIELD (R108; R183 codes 0 to 3). -/
inductive YieldReason where
  | skip | hold | miss | void
  deriving DecidableEq, Repr

/-- Outcomes the transmit queue gives a frame's owner (R33). -/
inductive FrameOutcome where
  | sent | spoiled | expired | evicted | removed | dropped | refused | discarded
  deriving DecidableEq, Repr

/-- Return codes of a tie (R161). -/
inductive TieCode where
  | tied | rework | quit | noAck | timeout
  deriving DecidableEq, Repr

/-- The four cases in which an assembly is abandoned (R23). -/
inductive DiscardCause where
  | unassignedKind | framing | short | badCrc
  deriving DecidableEq, Repr

/-- The width-filtered inputs (R1, R4, R56, R127, R180). -/
inductive FilteredInput where
  | cp | gate | lot | clrA | clrB | ack
  deriving DecidableEq, Repr

/-- The blocks a mode or halt notice may be handed to (R175, R176). -/
inductive Block where
  | lineBus | gaugeUnit | flightTable | claimEngine | cradleManager | releaseUnit | tiePort
  deriving DecidableEq, Repr

/-- What a carrier arrival carries to a consumer (R9). -/
structure Arrival where
  /-- slot here as the numbering rules have just set it -/
  slotHere : Slot
  /-- P as the period rules have just set it -/
  period : Ticks
  /-- whether the pulse was a slip -/
  slip : Bool
  deriving DecidableEq, Repr

/-- A frame's kind and payload (02, section 2.4; R183). The HELLO role stays a code, since other
values may be received (R25). -/
inductive FrameBody where
  | stem (slot : Slot) (cls : Nat) (length : Nat) (lot : Nat) (reason : RejectReason)
  | claim (slot : Slot) (cradle : CradleId)
  | yield (slot : Slot) (reason : YieldReason)
  | lot (lot : Nat) (lastSlot : Slot)
  | hello (code : Nat)
  deriving DecidableEq, Repr

/-- The commands of the LB412, one constructor per row of spec/opcode_table.json. -/
inductive Instr where
  /-- RESET: power-on or assertion of the RESET pin (R178). -/
  | reset
  /-- MEMORY_NO_ACKNOWLEDGE (R169). -/
  | memoryNoAcknowledge
  /-- RETRY_WAIT_EXPIRY (R169). -/
  | retryWaitExpiry
  /-- RECORD_READ_COMPLETE: the bytes clocked in (R169, R170). -/
  | recordReadComplete (bytes : List Byte)
  /-- ANNOUNCE_TIMER_EXPIRY (R175). -/
  | announceTimerExpiry
  /-- MODE_NOTICE: the block that takes it and the held flag it carries (R175). -/
  | modeNotice (block : Block) (held : Bool)
  /-- HALT_NOTICE: the block that takes it and the held flag it carries (R176). -/
  | haltNotice (block : Block) (held : Bool)
  /-- FILTER_INPUT_ASSERTED (R1). -/
  | filterInputAsserted (input : FilteredInput)
  /-- FILTER_INPUT_RELEASED (R1). -/
  | filterInputReleased (input : FilteredInput)
  /-- CP_QUALIFICATION: the level HM holds at that instant (R2, R3). -/
  | cpQualification (homeMark : Bool)
  /-- STALL (R10). -/
  | stall
  /-- FILTERED_GATE_EDGE (R4, R147). -/
  | filteredGateEdge
  /-- IDLE_GAP_COMPLETE (R19). -/
  | idleGapComplete
  /-- CONTENTION_WINDOW (R20). -/
  | contentionWindow
  /-- CONTENTION_LOST (R22). -/
  | contentionLost
  /-- CONTENTION_DRIVE_FAILED (R22). -/
  | contentionDriveFailed
  /-- CONTENTION_WON (R22). -/
  | contentionWon
  /-- SPOIL (R26). -/
  | spoil
  /-- FRAME_SENT (R27). -/
  | frameSent
  /-- FRAME_HEARD: the characters of the frame, its CRC included (R25). -/
  | frameHeard (chars : List Byte)
  /-- FRAME_DISCARDED (R23). -/
  | frameDiscarded (cause : DiscardCause)
  /-- STUCK_ENTRY (R29). -/
  | stuckEntry
  /-- STUCK_EXIT (R29). -/
  | stuckExit
  /-- CARRIER_NOTICE: the slot here it carries (R32). -/
  | carrierNotice (slotHere : Slot)
  /-- REMOVAL_REQUEST: the frame its owner asks to have removed (R33). -/
  | removalRequest (frame : FrameBody)
  /-- STEM_OUTCOME (R54). -/
  | stemOutcome (slot : Slot) (outcome : FrameOutcome)
  /-- LOT_OUTCOME: the frame's lot and last slot, and its outcome (R58). -/
  | lotOutcome (lot : Nat) (lastSlot : Slot) (outcome : FrameOutcome)
  /-- HELLO_OUTCOME (R173). -/
  | helloOutcome (outcome : FrameOutcome)
  /-- CLAIM_OUTCOME: the frame's slot and its outcome (R76). -/
  | claimOutcome (slot : Slot) (outcome : FrameOutcome)
  /-- YIELD_OUTCOME: the frame's slot and reason, and its outcome (R109). -/
  | yieldOutcome (slot : Slot) (reason : YieldReason) (outcome : FrameOutcome)
  /-- GAUGE_CARRIER_ARRIVAL (R45). -/
  | gaugeCarrierArrival (arrival : Arrival)
  /-- SCAN_DUE: whether SRDY is asserted when SREQ rises (R38, R43). -/
  | scanDue (scanReady : Bool)
  /-- SRDY_ASSERTED (R38). -/
  | srdyAsserted
  /-- SCAN_RECORD_COMPLETE: the 16-bit record (R38, R185). -/
  | scanRecordComplete (record : Word16)
  /-- RESPONSE_LIMIT_EXPIRY (R39). -/
  | responseLimitExpiry
  /-- LOT_PRESS (R57). -/
  | lotPress
  /-- GAUGE_STEM_HEARD: slot and class of the station's own STEM (R60). -/
  | gaugeStemHeard (slot : Slot) (cls : Nat)
  /-- GAUGE_CLAIM_HEARD (R61). -/
  | gaugeClaimHeard (slot : Slot)
  /-- GAUGE_YIELD_HEARD (R63). -/
  | gaugeYieldHeard (slot : Slot)
  /-- FLIGHT_TABLE_STEM: slot, class and lot of the frame (R69). -/
  | flightTableStem (slot : Slot) (cls : Nat) (lot : Nat)
  /-- FLIGHT_TABLE_CLAIM: slot, cradle and sender of the frame (R70). -/
  | flightTableClaim (slot : Slot) (cradle : CradleId) (sender : Nat)
  /-- FLIGHT_TABLE_YIELD: slot, reason and sender of the frame (R71). -/
  | flightTableYield (slot : Slot) (reason : YieldReason) (sender : Nat)
  /-- FLIGHT_TABLE_LOT: ending lot and last slot (R81). -/
  | flightTableLot (lot : Nat) (lastSlot : Slot)
  /-- FLIGHT_TABLE_CARRIER_ARRIVAL (R77, R79). -/
  | flightTableCarrierArrival (arrival : Arrival)
  /-- CLAIM_ENGINE_CARRIER_ARRIVAL (R91). -/
  | claimEngineCarrierArrival (arrival : Arrival)
  /-- PASS_REQUEST (R90). -/
  | passRequest
  /-- HOLD_LEVEL_CHANGE: the new level, true for asserted (R89). -/
  | holdLevelChange (asserted : Bool)
  /-- HOLD_ASSERTION (R104). -/
  | holdAssertion
  /-- HOLD_RELEASE (R107). -/
  | holdRelease
  /-- YIELD_REQUEST (R108). -/
  | yieldRequest (slot : Slot) (reason : YieldReason)
  /-- WIN (R115). -/
  | win (cradle : CradleId)
  /-- RETURN (R116). -/
  | returnCount (cradle : CradleId)
  /-- MISS (R116). -/
  | miss (cradle : CradleId)
  /-- PLACE (R117). -/
  | place (cradle : CradleId)
  /-- CRADLE_CARRIER_ARRIVAL (R121). -/
  | cradleCarrierArrival (arrival : Arrival)
  /-- CLOSE_LOT (R124). -/
  | closeLot (lot : Nat)
  /-- HOLD_NOTICE_CRADLE: true for an assertion (R126). -/
  | holdNoticeCradle (held : Bool)
  /-- CLEAR (R127, R128). -/
  | clear (cradle : CradleId)
  /-- CLEAR_NOTICE_FLIGHT_TABLE (R129). -/
  | clearNoticeFlightTable (cradle : CradleId)
  /-- CLEAR_NOTICE_RELEASE (R150). -/
  | clearNoticeRelease (cradle : CradleId)
  /-- TIE_RESULT (R134). -/
  | tieResult (cradle : CradleId) (code : TieCode)
  /-- UNCERTAIN_MARK (R135). -/
  | uncertainMark (cradle : CradleId)
  /-- RELEASE_HANDOVER: slot, cradle and the P the carrier arrival carried (R78, R140). -/
  | releaseHandover (slot : Slot) (cradle : CradleId) (period : Ticks)
  /-- RELEASE_CARRIER_STEP (R141). -/
  | releaseCarrierStep (arrival : Arrival)
  /-- FLAP_SETTLE_EXPIRY (R143). -/
  | flapSettleExpiry
  /-- DELAY_EXPIRY (R145). -/
  | delayExpiry
  /-- PULSE_END_EXPIRY (R145). -/
  | pulseEndExpiry
  /-- CONFIRMATION_WINDOW_EXPIRY (R146). -/
  | confirmationWindowExpiry
  /-- HOLD_NOTICE_RELEASE_UNIT: true for an assertion (R149). -/
  | holdNoticeReleaseUnit (held : Bool)
  /-- HOLD_NOTICE_TIE_PORT: true for an assertion (R165). -/
  | holdNoticeTiePort (held : Bool)
  /-- QUEUE_NOTICE (R132, R155). -/
  | queueNotice
  /-- RECORD_SHIFTED (R157). -/
  | recordShifted
  /-- TACK_EDGE (R158). -/
  | tackEdge
  /-- TDONE_EDGE (R159). -/
  | tdoneEdge
  /-- ACK_LIMIT_EXPIRY (R158). -/
  | ackLimitExpiry
  /-- TIE_LIMIT_EXPIRY (R159). -/
  | tieLimitExpiry
  /-- STATUS_WORD_COMPLETE: the 16-bit status word (R160, R185). -/
  | statusWordComplete (word : Word16)
  /-- SNAPSHOT (R179). -/
  | snapshot
  /-- SSEL_RELEASE (R179). -/
  | sselRelease
  /-- ACK_PRESS (R180). -/
  | ackPress
  /-- LAMP_FLASH_TOGGLE (R181). -/
  | lampFlashToggle
  /-- RESET_RELEASE: the ROLE strap (high selects gauge) and ID5..ID0 (R168). -/
  | resetRelease (rolePin : Bool) (idPins : BitVec 6)
  /-- DOMINANT_LEVEL_IN_WAIT_GAP (R19, R29). -/
  | dominantLevelInWaitGap
  deriving DecidableEq, Repr

end Sys2Proof
end

