-- ==== Sys2Proof/WellFormed.lean ====
section
/-! DEFINITION. Which commands can be met: the ranges of operands the spec gives. A command outside
them cannot be handed over by the part and stands for nothing the outside can do. -/

namespace Sys2Proof

/-- A slot field has ten bits and the value 1023 names no slot (R25, R183). -/
def slotInRange (slot : Slot) : Bool := slot < 1023

/-- Class and lot numbers have four bits (R183). -/
def nibbleInRange (n : Nat) : Bool := n < 16

/-- A frame's fields fit the widths of R183. -/
def FrameBody.wellFormed : FrameBody → Bool
  | .stem slot cls length lotNo _ => slotInRange slot && nibbleInRange cls && decide (length < 2048) && nibbleInRange lotNo
  | .claim slot _ => slotInRange slot
  | .yield slot _ => slotInRange slot
  | .lot lotNo lastSlot => nibbleInRange lotNo && slotInRange lastSlot
  | .hello code => decide (code < 256)

/-- A carrier arrival carries a slot of the chain and a period the interval timer can hold (R9, R13). -/
def Arrival.wellFormed (a : Arrival) : Bool := slotInRange a.slotHere && decide (a.period ≤ 262143)

/-- A frame has at most nine characters and at least the five of a HELLO (02, section 2.4). -/
def frameLengthInRange (chars : List Byte) : Bool := decide (5 ≤ chars.length ∧ chars.length ≤ 9)

/-- Blocks that keep a held copy and take the mode notice (R175). -/
def Block.takesModeNotice : Block → Bool
  | .cradleManager | .releaseUnit | .tiePort => true
  | .lineBus | .gaugeUnit | .flightTable | .claimEngine => false

/-- Outcomes a CLAIM or another frame can end with; DROPPED is never given to a CLAIM (R31). -/
def FrameOutcome.possibleForClaim : FrameOutcome → Bool
  | .dropped => false
  | .sent | .spoiled | .expired | .evicted | .removed | .refused | .discarded => true

/-- Whether the outside, or a block of the part, can give this command. -/
def Instr.wellFormed : Instr → Bool
  | .reset => true
  | .memoryNoAcknowledge => true
  | .retryWaitExpiry => true
  | .recordReadComplete bytes => decide (bytes.length = 128)
  | .announceTimerExpiry => true
  | .modeNotice block _ => block.takesModeNotice
  | .haltNotice _ _ => true
  | .filterInputAsserted _ => true
  | .filterInputReleased _ => true
  | .cpQualification _ => true
  | .stall => true
  | .filteredGateEdge => true
  | .idleGapComplete => true
  | .contentionWindow => true
  | .contentionLost => true
  | .contentionDriveFailed => true
  | .contentionWon => true
  | .spoil => true
  | .frameSent => true
  | .frameHeard chars => frameLengthInRange chars
  | .frameDiscarded _ => true
  | .stuckEntry => true
  | .stuckExit => true
  | .carrierNotice slotHere => slotInRange slotHere
  | .removalRequest frame => frame.wellFormed
  | .stemOutcome slot _ => slotInRange slot
  | .lotOutcome lot lastSlot _ => nibbleInRange lot && slotInRange lastSlot
  | .helloOutcome _ => true
  | .claimOutcome slot outcome => slotInRange slot && outcome.possibleForClaim
  | .yieldOutcome slot _ _ => slotInRange slot
  | .gaugeCarrierArrival arrival => arrival.wellFormed
  | .scanDue _ => true
  | .srdyAsserted => true
  | .scanRecordComplete _ => true
  | .responseLimitExpiry => true
  | .lotPress => true
  | .gaugeStemHeard slot cls => slotInRange slot && nibbleInRange cls
  | .gaugeClaimHeard slot => slotInRange slot
  | .gaugeYieldHeard slot => slotInRange slot
  | .flightTableStem slot cls lot => slotInRange slot && nibbleInRange cls && nibbleInRange lot
  | .flightTableClaim slot _ sender => slotInRange slot && decide (sender < 64)
  | .flightTableYield slot _ sender => slotInRange slot && decide (sender < 64)
  | .flightTableLot lot lastSlot => nibbleInRange lot && slotInRange lastSlot
  | .flightTableCarrierArrival arrival => arrival.wellFormed
  | .claimEngineCarrierArrival arrival => arrival.wellFormed
  | .passRequest => true
  | .holdLevelChange _ => true
  | .holdAssertion => true
  | .holdRelease => true
  | .yieldRequest slot _ => slotInRange slot
  | .win _ => true
  | .returnCount _ => true
  | .miss _ => true
  | .place _ => true
  | .cradleCarrierArrival arrival => arrival.wellFormed
  | .closeLot lot => nibbleInRange lot
  | .holdNoticeCradle _ => true
  | .clear _ => true
  | .clearNoticeFlightTable _ => true
  | .clearNoticeRelease _ => true
  | .tieResult _ _ => true
  | .uncertainMark _ => true
  | .releaseHandover slot _ period => slotInRange slot && decide (period ≤ 262143)
  | .releaseCarrierStep arrival => arrival.wellFormed
  | .flapSettleExpiry => true
  | .delayExpiry => true
  | .pulseEndExpiry => true
  | .confirmationWindowExpiry => true
  | .holdNoticeReleaseUnit _ => true
  | .holdNoticeTiePort _ => true
  | .queueNotice => true
  | .recordShifted => true
  | .tackEdge => true
  | .tdoneEdge => true
  | .ackLimitExpiry => true
  | .tieLimitExpiry => true
  | .statusWordComplete _ => true
  | .snapshot => true
  | .sselRelease => true
  | .ackPress => true
  | .lampFlashToggle => true
  | .resetRelease _ _ => true
  | .dominantLevelInWaitGap => true

end Sys2Proof
end

