-- ==== Sys2Proof/Decode.lean ====
section
/-! DEFINITION. The command a table word spells. No row of spec/opcode_table.json gives bits (its
"fields" are all empty), so no word spells a command (log 9). The bit layouts of chapter 11 are in
Machine/Operands.lean. -/

namespace Sys2Proof

/-- The command that `w` spells by the table's bits: none, since the table gives no row any bits. -/
def decodeTableWord (_nbits _w : Nat) : Option Instr := none

end Sys2Proof
end

