-- ==== Sys2Proof/Machine/State.lean ====
section
/-! DEFINITION. The state of an LB412 as plain data: one structure per block (00 "Block overview"),
the value after reset of every field, and the reasons a step could stop. -/

namespace Sys2Proof.Machine

/-- Reasons the machine could stop with. There are none: no rule of the spec describes a stop, so no
meaning raises one (NOTES.md, Stops). -/
inductive Fault where
  deriving DecidableEq, Repr

/-- Reasons a command could have no meaning. -/
inductive Refusal where
  /-- Raised by an arm of `exec` whose command has no meaning yet, by its mnemonic; safe. No arm raises it. -/
  | notModelled (mnemonic : String)
  deriving DecidableEq, Repr

/-! ### Inputs and filters -/

/-- A width filter (R1, R4, R56, R127, R180), with the stopped state it has before loading ends (R5). -/
inductive Filter where
  | stopped
  | released
  /-- asserted for this many ticks, fewer than the width -/
  | qualifying (ticks : Ticks)
  | held
  deriving DecidableEq, Repr

/-- The hold filter (R89): stopped, or running with the ticks of a level change under way. -/
inductive HoldFilter where
  | stopped
  | steady
  /-- the level has differed from the held flag for this many ticks -/
  | changing (ticks : Ticks)
  deriving DecidableEq, Repr

/-- Input levels as the last command reported them, true for asserted (R5, R53, R56, R89, R127, R180). -/
structure Pins where
  cp : Bool
  gate : Bool
  lot : Bool
  clrA : Bool
  clrB : Bool
  ack : Bool
  hold : Bool
  deriving DecidableEq, Repr

/-! ### Configuration Loader -/

/-- The station modes (09, section 9.1). -/
inductive Mode where
  | loading | configFault | announcing | active | halted
  deriving DecidableEq, Repr

/-- The loader's transaction with the configuration memory (R169). -/
inductive MemoryRead where
  | inactive
  /-- attempt number 1..10 under way -/
  | transaction (attempt : Nat)
  /-- the wait after an unacknowledged attempt, with the ticks left of 100 -/
  | retryWait (attempt : Nat) (left : Ticks)
  deriving DecidableEq, Repr

/-- The Configuration Loader (R168 to R178). -/
structure Loader where
  mode : Mode
  role : Option Role
  id : Option (BitVec 6)
  /-- the configuration record in use -/
  record : Option StationConfig
  /-- configuration reason code, 0..25 -/
  reason : Nat
  /-- announce timer: ticks left, or stopped -/
  announce : Option Ticks
  memory : MemoryRead
  /-- the RESET pin is asserted (R177) -/
  resetAsserted : Bool
  deriving DecidableEq, Repr

/-! ### Carrier Tracker -/

/-- Tracker states (01, section 1.1). -/
inductive TrackerState where
  | unsynced | tracking | stalled
  deriving DecidableEq, Repr

/-- The Carrier Tracker (R1 to R17). -/
structure Tracker where
  state : TrackerState
  /-- slot here, without value while UNSYNCED -/
  slotHere : Option Slot
  /-- P -/
  period : Ticks
  /-- interval timer, idle until the first accepted pulse -/
  interval : Option Ticks
  timed : Bool
  homeCount : Nat
  cpFilter : Filter
  gateFilter : Filter
  deriving DecidableEq, Repr

/-! ### Line Bus Controller -/

/-- Line states (02, section 2.2). -/
inductive LineState where
  | stopped | waitGap | idle | contending | sending | receiving | stuck
  deriving DecidableEq, Repr

/-- A frame: its contention value (R21) and its kind and payload. -/
structure Frame where
  value : Nat
  body : FrameBody
  deriving DecidableEq, Repr

/-- What reached a frame while it was being contended, and is held until that ends (R30). -/
inductive HeldEvent where
  | expired | removed
  deriving DecidableEq, Repr

/-- A queued frame (R30). -/
structure QueuedFrame where
  frame : Frame
  /-- Hs, Ly or Hc, in carriers; none for LOT and HELLO -/
  deadline : Option Nat
  /-- carrier count of a STEM or YIELD -/
  count : Nat
  contended : Bool
  /-- the first event held while being contended -/
  heldEvent : Option HeldEvent
  deriving DecidableEq, Repr

/-- The queue's answers to a removal request (R33); `deferred` while the frame is being contended (R30). -/
inductive RemovalAnswer where
  | removed | inTransmission | notQueued | deferred
  deriving DecidableEq, Repr

/-- An answer to a removal request, and the frame that was asked for (R33). -/
structure RemovalReply where
  body : FrameBody
  answer : RemovalAnswer
  deriving DecidableEq, Repr

/-- The Line Bus Controller (R18 to R37). -/
structure LineBus where
  state : LineState
  /-- recessive line counted towards 30 bit times, in µs (R19, R29) -/
  gap : Nat
  queue : List QueuedFrame
  sending : Option Frame
  spoilRun : Nat
  /-- read in RECEIVING only: what is being assembled is left of this station's own spoiled frame (R23, R26; log 23) -/
  ownSpoiled : Bool
  /-- the accepted gauge id (R35) -/
  gaugeId : Option Nat
  /-- the removal request held for the frame being contended, by the frame it names (R30; log 16) -/
  removalHeld : Option FrameBody
  /-- the MODEL's own: the answer given last, with the frame asked for (log 16) -/
  removalAnswer : Option RemovalReply
  deriving DecidableEq, Repr

/-! ### Gauge Unit -/

/-- A scan result (R40). -/
inductive ScanResult where
  | clear
  | stem (beam : Nat)
  | blocked
  | lost
  deriving DecidableEq, Repr

/-- The scan port (R38, R39). -/
inductive ScanPort where
  | idle
  /-- AWAITING: the request timer, whether the record is being clocked, and the position that asked,
  none once its window was cut short (R45) -/
  | awaiting (timer : Ticks) (clocking : Bool) (position : Option Nat)
  deriving DecidableEq, Repr

/-- An open measure window (R42). -/
structure MeasureWindow where
  slot : Slot
  /-- the P of the pulse that opened it -/
  period : Ticks
  /-- ticks since that pulse -/
  elapsed : Ticks
  /-- K positions, each empty or holding a result -/
  results : List (Option ScanResult)
  /-- index of the next scan to be requested -/
  nextScan : Nat
  deriving DecidableEq, Repr

/-- An issue watch entry (R59). -/
structure WatchEntry where
  slot : Slot
  /-- the class, none when unknown -/
  cls : Option Nat
  horizon : Nat
  deriving DecidableEq, Repr

/-- The Gauge Unit (R38 to R66). -/
structure GaugeUnit where
  port : ScanPort
  lostRun : Nat
  window : Option MeasureWindow
  lotNumber : Nat
  lastStemSlot : Option Slot
  pendingPress : Bool
  lotFilter : Filter
  watch : List WatchEntry
  lastUnserved : Option Nat
  deriving DecidableEq, Repr

/-! ### Flight Table -/

/-- The state a withdrawn entry takes, or removal (R74). -/
inductive WithdrawalTarget where
  | unclaimed
  | other (claimant : Nat)
  | released
  | removal
  deriving DecidableEq, Repr

/-- A cause of withdrawal: its target and its yield reason, if it has one (R74). -/
structure Withdrawal where
  target : WithdrawalTarget
  reason : Option YieldReason
  deriving DecidableEq, Repr

/-- States of a flight entry, each with the fields present in it only (04, section 4.1). In TENTATIVE,
`asked` is a withdrawal waiting for the queue's answer while the CLAIM is being contended (R30, R74). -/
inductive EntryState where
  | unclaimed
  | tentative (cradle : CradleId) (pendingYield : Option YieldReason) (asked : Option Withdrawal)
  | mine (cradle : CradleId)
  | other (claimant : Nat)
  | yielded
  | released
  deriving DecidableEq, Repr

/-- A flight entry (04, section 4.1). -/
structure FlightEntry where
  slot : Slot
  cls : Nat
  lot : Nat
  state : EntryState
  deriving DecidableEq, Repr

/-- A lot-close record (R80). -/
structure LotClose where
  lot : Nat
  lastSlot : Slot
  deriving DecidableEq, Repr

/-- The Flight Table (R67 to R87). -/
structure FlightTable where
  entries : List FlightEntry
  lotCloses : List LotClose
  deriving DecidableEq, Repr

/-! ### Claim Engine -/

/-- The Claim Engine (R88 to R112). -/
structure ClaimEngine where
  held : Bool
  holdFilter : HoldFilter
  deriving DecidableEq, Repr

/-! ### Cradle Manager -/

/-- Cradle states (R113). -/
inductive CradleState where
  /-- EMPTY -/
  | empty
  /-- OPEN -/
  | opened
  /-- SEALED -/
  | sealed
  /-- READY -/
  | ready
  /-- TYING -/
  | tying
  /-- FAULTED -/
  | faulted
  deriving DecidableEq, Repr

/-- What waits on a cradle's outstanding claims (06, section 6.1). -/
inductive CradlePending where
  | none | close | void
  deriving DecidableEq, Repr

/-- The class and lot a cradle is bound to. -/
structure Binding where
  cls : Nat
  lot : Nat
  deriving DecidableEq, Repr

/-- A cradle record (06, section 6.1). -/
structure Cradle where
  state : CradleState
  binding : Option Binding
  placed : Nat
  won : Nat
  tentative : Nat
  idleCount : Nat
  idleDue : Bool
  stale : Bool
  pending : CradlePending
  short : Bool
  uncertain : Bool
  bunch : Option Word16
  deriving DecidableEq, Repr

/-- The EMPTY values (R120). -/
def Cradle.emptyRecord : Cradle where
  state := .empty
  binding := none
  placed := 0
  won := 0
  tentative := 0
  idleCount := 0
  idleDue := false
  stale := false
  pending := .none
  short := false
  uncertain := false
  bunch := none

/-- The Cradle Manager (R113 to R138). -/
structure CradleManager where
  a : Cradle
  b : Cradle
  tieQueue : List CradleId
  bunchSequence : Word16
  held : Bool
  clrA : Filter
  clrB : Filter
  deriving DecidableEq, Repr

/-! ### Release Unit -/

/-- Phases of a release record (R139). -/
inductive ReleasePhase where
  | delay | pulse | window
  deriving DecidableEq, Repr

/-- A release record (R139). -/
structure ReleaseRecord where
  slot : Slot
  cradle : CradleId
  period : Ticks
  width : Ticks
  phase : ReleasePhase
  cleared : Bool
  deriving DecidableEq, Repr

/-- An open confirmation window, with its record while that is unresolved (R139, R145). -/
structure ConfirmationWindow where
  cradle : CradleId
  /-- ticks left of Cw -/
  left : Ticks
  /-- 0, 1, or 2 for two and more -/
  edges : Nat
  record : Option ReleaseRecord
  deriving DecidableEq, Repr

/-- The Release Unit (R139 to R153). Of its at most two records, the one in DELAY stands in `delayed`
and the one in PULSE or WINDOW in the open window. -/
structure ReleaseUnit where
  delayed : Option ReleaseRecord
  /-- ticks left to the delay expiry -/
  delayTimer : Option Ticks
  /-- the REL output -/
  rel : Bool
  /-- pulse-end timer: ticks left -/
  pulseTimer : Option Ticks
  window : Option ConfirmationWindow
  /-- the FLAP output -/
  flap : CradleId
  /-- settle timer: ticks left, none when settled -/
  settle : Option Ticks
  held : Bool
  /-- the MODEL's own: slot here of the pulse whose carrier step was last taken (R141; log 18) -/
  lastStep : Option Slot
  deriving DecidableEq, Repr

/-! ### Tie Port -/

/-- Phases of the handshake (08, section 8.2). -/
inductive TiePhase where
  | idle | sending | awaitAck | tying | reading
  deriving DecidableEq, Repr

/-- The contents of a TIE command (R133); an ABORT carries the same fields (R156). -/
structure TieRecord where
  cradle : CradleId
  cls : Nat
  lot : Nat
  count : Nat
  bunch : Word16
  short : Bool
  uncertain : Bool
  deriving DecidableEq, Repr

/-- The Tie Port (R154 to R167). -/
structure TiePort where
  phase : TiePhase
  abortStep : Bool
  abortPending : Bool
  current : Option TieRecord
  lastRecord : Option TieRecord
  earlyAck : Bool
  /-- limit timer: ticks left of the ack or the tie limit -/
  limit : Option Ticks
  /-- ticks left of the record being shifted out (R157) -/
  shift : Option Ticks
  held : Bool
  lastCode : Option TieCode
  lastFault : BitVec 4
  deriving DecidableEq, Repr

/-! ### Status Port -/

/-- The eleven attention flags, in the order of R186. -/
inductive FlagName where
  | configFault | duplicateId | gaugeConflict | busStuck | txFault | slip | homeMissing | stale | tieFault | runout | scanFault
  deriving DecidableEq, Repr

/-- The attention flags (R180). -/
structure Flags where
  configFault : Bool
  duplicateId : Bool
  gaugeConflict : Bool
  busStuck : Bool
  txFault : Bool
  slip : Bool
  homeMissing : Bool
  stale : Bool
  tieFault : Bool
  runout : Bool
  scanFault : Bool
  deriving DecidableEq, Repr

/-- The forty counters, in the order of R182. -/
inductive CounterName where
  | glitches | earlyPulses | slips | homeMissed | framesHeard | receiveErrors | framesSent | framesDropped
  | spoiledTransmissions | foreignFrames | lateStems | duplicateStems | conflicts | claimsWon | claimsWithdrawn | yieldsSent
  | yieldsHeard | releases | misses | skips | shortReleases | strays | doubles | fullBunches
  | shortBunches | voidedBunches | tied | reworked | tieFaults | countMismatches | lateDone | stemsSent
  | empties | shortRejects | unmeasuredRejects | unsteadyRejects | heldStems | scansLost | unserved | watchOverflow
  deriving DecidableEq, Repr

/-- The counters, 16-bit unsigned (R182). -/
structure Counters where
  glitches : Word16
  earlyPulses : Word16
  slips : Word16
  homeMissed : Word16
  framesHeard : Word16
  receiveErrors : Word16
  framesSent : Word16
  framesDropped : Word16
  spoiledTransmissions : Word16
  foreignFrames : Word16
  lateStems : Word16
  duplicateStems : Word16
  conflicts : Word16
  claimsWon : Word16
  claimsWithdrawn : Word16
  yieldsSent : Word16
  yieldsHeard : Word16
  releases : Word16
  misses : Word16
  skips : Word16
  shortReleases : Word16
  strays : Word16
  doubles : Word16
  fullBunches : Word16
  shortBunches : Word16
  voidedBunches : Word16
  tied : Word16
  reworked : Word16
  tieFaults : Word16
  countMismatches : Word16
  lateDone : Word16
  stemsSent : Word16
  empties : Word16
  shortRejects : Word16
  unmeasuredRejects : Word16
  unsteadyRejects : Word16
  heldStems : Word16
  scansLost : Word16
  unserved : Word16
  watchOverflow : Word16
  deriving DecidableEq, Repr

/-- The Status Port (R179 to R182). -/
structure StatusPort where
  flags : Flags
  counters : Counters
  /-- the snapshot being read, byte 0 first -/
  snapshot : Option (List Byte)
  ackFilter : Filter
  /-- flash timer: ticks left of 25,000, or stopped -/
  flash : Option Ticks
  /-- flash phase: lit -/
  flashLit : Bool
  deriving DecidableEq, Repr

/-! ### The whole state -/

/-- The state of one LB412. -/
structure State where
  pins : Pins
  loader : Loader
  tracker : Tracker
  bus : LineBus
  gauge : GaugeUnit
  table : FlightTable
  engine : ClaimEngine
  cradles : CradleManager
  release : ReleaseUnit
  tie : TiePort
  status : StatusPort
  /-- the MODEL's own: arrivals handed over and not yet taken, oldest first (log 1) -/
  handed : List Instr
  /-- the MODEL's own: ticks passed, the argument of the free values (log 5) -/
  now : Nat
  /-- the commands waiting, first in, first out -/
  pending : List Instr
  deriving DecidableEq, Repr

/-! ### Reset values -/

/-- Every input released (DESIGN CHOICE, log 6): the levels before any command reports one. -/
def Pins.reset : Pins where
  cp := false
  gate := false
  lot := false
  clrA := false
  clrB := false
  ack := false
  hold := false

/-- R178; RESET still asserted (log 8). -/
def Loader.reset : Loader where
  mode := .loading
  role := none
  id := none
  record := none
  reason := 0
  announce := none
  memory := .inactive
  resetAsserted := true

/-- R17. -/
def Tracker.reset : Tracker where
  state := .unsynced
  slotHere := none
  period := 0
  interval := none
  timed := false
  homeCount := 0
  cpFilter := .stopped
  gateFilter := .stopped

/-- R37. -/
def LineBus.reset : LineBus where
  state := .stopped
  gap := 0
  queue := []
  sending := none
  spoilRun := 0
  ownSpoiled := false
  gaugeId := none
  removalHeld := none
  removalAnswer := none

/-- R66. -/
def GaugeUnit.reset : GaugeUnit where
  port := .idle
  lostRun := 0
  window := none
  lotNumber := 0
  lastStemSlot := none
  pendingPress := false
  lotFilter := .stopped
  watch := []
  lastUnserved := none

/-- R87. -/
def FlightTable.reset : FlightTable where
  entries := []
  lotCloses := []

/-- R112. -/
def ClaimEngine.reset : ClaimEngine where
  held := false
  holdFilter := .stopped

/-- R138. -/
def CradleManager.reset : CradleManager where
  a := Cradle.emptyRecord
  b := Cradle.emptyRecord
  tieQueue := []
  bunchSequence := 0
  held := false
  clrA := .stopped
  clrB := .stopped

/-- R153. -/
def ReleaseUnit.reset : ReleaseUnit where
  delayed := none
  delayTimer := none
  rel := false
  pulseTimer := none
  window := none
  flap := .a
  settle := none
  held := false
  lastStep := none

/-- R167. -/
def TiePort.reset : TiePort where
  phase := .idle
  abortStep := false
  abortPending := true
  current := none
  lastRecord := none
  earlyAck := false
  limit := none
  shift := none
  held := false
  lastCode := none
  lastFault := 0

/-- No flag set (R180). -/
def Flags.reset : Flags where
  configFault := false
  duplicateId := false
  gaugeConflict := false
  busStuck := false
  txFault := false
  slip := false
  homeMissing := false
  stale := false
  tieFault := false
  runout := false
  scanFault := false

/-- Every counter 0 (R182). -/
def Counters.reset : Counters where
  glitches := 0
  earlyPulses := 0
  slips := 0
  homeMissed := 0
  framesHeard := 0
  receiveErrors := 0
  framesSent := 0
  framesDropped := 0
  spoiledTransmissions := 0
  foreignFrames := 0
  lateStems := 0
  duplicateStems := 0
  conflicts := 0
  claimsWon := 0
  claimsWithdrawn := 0
  yieldsSent := 0
  yieldsHeard := 0
  releases := 0
  misses := 0
  skips := 0
  shortReleases := 0
  strays := 0
  doubles := 0
  fullBunches := 0
  shortBunches := 0
  voidedBunches := 0
  tied := 0
  reworked := 0
  tieFaults := 0
  countMismatches := 0
  lateDone := 0
  stemsSent := 0
  empties := 0
  shortRejects := 0
  unmeasuredRejects := 0
  unsteadyRejects := 0
  heldStems := 0
  scansLost := 0
  unserved := 0
  watchOverflow := 0

/-- R180, R181, R182. -/
def StatusPort.reset : StatusPort where
  flags := Flags.reset
  counters := Counters.reset
  snapshot := none
  ackFilter := .stopped
  flash := none
  flashLit := false

/-- The part right after reset: every block at its reset values (R178), no command and no arrival
waiting. RESET is still asserted; the command RESET_RELEASE begins LOADING's work (R168). -/
def State.reset : State where
  pins := Pins.reset
  loader := Loader.reset
  tracker := Tracker.reset
  bus := LineBus.reset
  gauge := GaugeUnit.reset
  table := FlightTable.reset
  engine := ClaimEngine.reset
  cradles := CradleManager.reset
  release := ReleaseUnit.reset
  tie := TiePort.reset
  status := StatusPort.reset
  handed := []
  now := 0
  pending := []

end Sys2Proof.Machine
end

