-- ==== Sys2Proof/Machine/Flags.lean ====
section
/-! DEFINITION. Attention flags and counters (R180, R182): reading, raising, clearing, counting. -/

namespace Sys2Proof.Machine

/-- Reads one flag. -/
def Flags.get (f : Flags) : FlagName → Bool
  | .configFault => f.configFault
  | .duplicateId => f.duplicateId
  | .gaugeConflict => f.gaugeConflict
  | .busStuck => f.busStuck
  | .txFault => f.txFault
  | .slip => f.slip
  | .homeMissing => f.homeMissing
  | .stale => f.stale
  | .tieFault => f.tieFault
  | .runout => f.runout
  | .scanFault => f.scanFault

/-- Writes one flag. -/
def Flags.put (f : Flags) (v : Bool) : FlagName → Flags
  | .configFault => { f with configFault := v }
  | .duplicateId => { f with duplicateId := v }
  | .gaugeConflict => { f with gaugeConflict := v }
  | .busStuck => { f with busStuck := v }
  | .txFault => { f with txFault := v }
  | .slip => { f with slip := v }
  | .homeMissing => { f with homeMissing := v }
  | .stale => { f with stale := v }
  | .tieFault => { f with tieFault := v }
  | .runout => { f with runout := v }
  | .scanFault => { f with scanFault := v }

/-- The flags in the order of R186, bit 0 first. -/
def FlagName.all : List FlagName :=
  [.configFault, .duplicateId, .gaugeConflict, .busStuck, .txFault, .slip, .homeMissing, .stale, .tieFault, .runout, .scanFault]

/-- Reads one counter. -/
def Counters.get (c : Counters) : CounterName → Word16
  | .glitches => c.glitches
  | .earlyPulses => c.earlyPulses
  | .slips => c.slips
  | .homeMissed => c.homeMissed
  | .framesHeard => c.framesHeard
  | .receiveErrors => c.receiveErrors
  | .framesSent => c.framesSent
  | .framesDropped => c.framesDropped
  | .spoiledTransmissions => c.spoiledTransmissions
  | .foreignFrames => c.foreignFrames
  | .lateStems => c.lateStems
  | .duplicateStems => c.duplicateStems
  | .conflicts => c.conflicts
  | .claimsWon => c.claimsWon
  | .claimsWithdrawn => c.claimsWithdrawn
  | .yieldsSent => c.yieldsSent
  | .yieldsHeard => c.yieldsHeard
  | .releases => c.releases
  | .misses => c.misses
  | .skips => c.skips
  | .shortReleases => c.shortReleases
  | .strays => c.strays
  | .doubles => c.doubles
  | .fullBunches => c.fullBunches
  | .shortBunches => c.shortBunches
  | .voidedBunches => c.voidedBunches
  | .tied => c.tied
  | .reworked => c.reworked
  | .tieFaults => c.tieFaults
  | .countMismatches => c.countMismatches
  | .lateDone => c.lateDone
  | .stemsSent => c.stemsSent
  | .empties => c.empties
  | .shortRejects => c.shortRejects
  | .unmeasuredRejects => c.unmeasuredRejects
  | .unsteadyRejects => c.unsteadyRejects
  | .heldStems => c.heldStems
  | .scansLost => c.scansLost
  | .unserved => c.unserved
  | .watchOverflow => c.watchOverflow

/-- Writes one counter. -/
def Counters.put (c : Counters) (v : Word16) : CounterName → Counters
  | .glitches => { c with glitches := v }
  | .earlyPulses => { c with earlyPulses := v }
  | .slips => { c with slips := v }
  | .homeMissed => { c with homeMissed := v }
  | .framesHeard => { c with framesHeard := v }
  | .receiveErrors => { c with receiveErrors := v }
  | .framesSent => { c with framesSent := v }
  | .framesDropped => { c with framesDropped := v }
  | .spoiledTransmissions => { c with spoiledTransmissions := v }
  | .foreignFrames => { c with foreignFrames := v }
  | .lateStems => { c with lateStems := v }
  | .duplicateStems => { c with duplicateStems := v }
  | .conflicts => { c with conflicts := v }
  | .claimsWon => { c with claimsWon := v }
  | .claimsWithdrawn => { c with claimsWithdrawn := v }
  | .yieldsSent => { c with yieldsSent := v }
  | .yieldsHeard => { c with yieldsHeard := v }
  | .releases => { c with releases := v }
  | .misses => { c with misses := v }
  | .skips => { c with skips := v }
  | .shortReleases => { c with shortReleases := v }
  | .strays => { c with strays := v }
  | .doubles => { c with doubles := v }
  | .fullBunches => { c with fullBunches := v }
  | .shortBunches => { c with shortBunches := v }
  | .voidedBunches => { c with voidedBunches := v }
  | .tied => { c with tied := v }
  | .reworked => { c with reworked := v }
  | .tieFaults => { c with tieFaults := v }
  | .countMismatches => { c with countMismatches := v }
  | .lateDone => { c with lateDone := v }
  | .stemsSent => { c with stemsSent := v }
  | .empties => { c with empties := v }
  | .shortRejects => { c with shortRejects := v }
  | .unmeasuredRejects => { c with unmeasuredRejects := v }
  | .unsteadyRejects => { c with unsteadyRejects := v }
  | .heldStems => { c with heldStems := v }
  | .scansLost => { c with scansLost := v }
  | .unserved => { c with unserved := v }
  | .watchOverflow => { c with watchOverflow := v }

/-- The counters in the order of R182. -/
def CounterName.all : List CounterName :=
  [.glitches, .earlyPulses, .slips, .homeMissed, .framesHeard, .receiveErrors, .framesSent, .framesDropped,
   .spoiledTransmissions, .foreignFrames, .lateStems, .duplicateStems, .conflicts, .claimsWon, .claimsWithdrawn, .yieldsSent,
   .yieldsHeard, .releases, .misses, .skips, .shortReleases, .strays, .doubles, .fullBunches,
   .shortBunches, .voidedBunches, .tied, .reworked, .tieFaults, .countMismatches, .lateDone, .stemsSent,
   .empties, .shortRejects, .unmeasuredRejects, .unsteadyRejects, .heldStems, .scansLost, .unserved, .watchOverflow]

/-- One count, leaving 65,535 where it stands (R182). -/
def countUp (n : Word16) : Word16 := if n = 65535#16 then n else n + 1#16

/-- The state with one counter incremented (R182). -/
def State.bump (n : CounterName) (s : State) : State :=
  { s with status := { s.status with counters := s.status.counters.put (countUp (s.status.counters.get n)) n } }

/-- The state with one attention flag set (R180). -/
def State.raise (f : FlagName) (s : State) : State :=
  { s with status := { s.status with flags := s.status.flags.put true f } }

/-- Reads one counter of the state. -/
def State.counter (s : State) (n : CounterName) : Word16 := s.status.counters.get n

/-- Reads one attention flag of the state. -/
def State.flag (s : State) (f : FlagName) : Bool := s.status.flags.get f

/-- Whether the cause of a flag holds (the table of R180). -/
def State.causeHolds (s : State) : FlagName → Bool
  | .configFault => true
  | .duplicateId => true
  | .gaugeConflict => true
  | .busStuck => decide (s.bus.state = .stuck)
  | .txFault => false
  | .slip => false
  | .homeMissing =>
    match s.loader.record with
    | none => false
    | some cfg => decide (s.tracker.homeCount = 2 * cfg.chainLength)
  | .stale => s.cradles.a.stale || s.cradles.b.stale
  | .tieFault => decide (s.cradles.a.state = .faulted ∨ s.cradles.b.state = .faulted)
  | .runout => false
  | .scanFault => decide (s.gauge.lostRun = 8)

/-- The flags an ACK press leaves: each set flag whose cause still holds (R180). -/
def State.flagsAfterAck (s : State) : Flags where
  configFault := s.status.flags.configFault && s.causeHolds .configFault
  duplicateId := s.status.flags.duplicateId && s.causeHolds .duplicateId
  gaugeConflict := s.status.flags.gaugeConflict && s.causeHolds .gaugeConflict
  busStuck := s.status.flags.busStuck && s.causeHolds .busStuck
  txFault := s.status.flags.txFault && s.causeHolds .txFault
  slip := s.status.flags.slip && s.causeHolds .slip
  homeMissing := s.status.flags.homeMissing && s.causeHolds .homeMissing
  stale := s.status.flags.stale && s.causeHolds .stale
  tieFault := s.status.flags.tieFault && s.causeHolds .tieFault
  runout := s.status.flags.runout && s.causeHolds .runout
  scanFault := s.status.flags.scanFault && s.causeHolds .scanFault

/-- ATTN is asserted while any flag is set (R180). -/
def State.attention (s : State) : Bool := FlagName.all.any s.flag

end Sys2Proof.Machine
end

