-- ==== Sys2Proof/Machine/Limits.lean ====
section
/-! DEFINITION. The fixed quantities of the part, each by the rule that states it. -/

namespace Sys2Proof.Machine

/-- Where the interval timer saturates and the tracker stalls (R10, R13). -/
def stallLimit : Ticks := 262143

/-- Width of the LOT, CLR_A, CLR_B and ACK filters and of the hold filter: 20 ms (R56, R89, R127, R180). -/
def panelWidth : Ticks := 2000

/-- The announce timer: 250 ms (R172). -/
def announceTicks : Ticks := 25000

/-- The wait after an unacknowledged memory attempt (R169). -/
def retryTicks : Ticks := 100

/-- The memory attempts the loader makes (R169). -/
def memoryAttempts : Nat := 10

/-- Half the lamp flash: 25,000 ticks lit, 25,000 dark (R181). -/
def flashTicks : Ticks := 25000

/-- A 40-bit record takes 40 µs to shift out (R157, R185). -/
def shiftTicks : Ticks := 4

/-- Frames the transmit queue holds (R30). -/
def queueCapacity : Nat := 16

/-- Spoiled transmissions in a run that set TX_FAULT (R28). -/
def spoilLimit : Nat := 16

/-- Where the lost run stops, setting SCAN_FAULT (R41). -/
def lostLimit : Nat := 8

/-- Entries of the issue watch (R59). -/
def watchCapacity : Nat := 128

/-- Records of the lot-close list (R80). -/
def lotCloseCapacity : Nat := 4

/-- Where the idle count stops (R121). -/
def idleCountLimit : Nat := 4095

/-- Where a computed length is clamped, in millimetres (R50). -/
def lengthLimit : Nat := 2047

/-- Bit times of recessive line in an idle gap, and to leave STUCK (R19, R29). -/
def gapBits : Nat := 30

/-- The recessive bit time at which a short frame is found (R23). -/
def shortFrameBits : Nat := 11

/-- Bytes of the configuration record (R169). -/
def recordBytes : Nat := 128

/-- The value the status record shows for slot here while UNSYNCED (R6, R186). -/
def unsyncedSlotCode : Nat := 1023

end Sys2Proof.Machine
end

