-- ==== Sys2Proof/Machine/Ops.lean ====
section
/-! DEFINITION. Operations shared by the blocks: role and mode, hand-overs between blocks, width
filters, distances around the chain, fractions of the period. -/

namespace Sys2Proof.Machine

/-- What a meaning answers. -/
abbrev Result := Host.Outcome State Fault Refusal

/-! ### Role, mode and configuration -/

/-- The configuration record in use, or the blank one before there is any (R178). -/
def State.cfg (s : State) : StationConfig :=
  match s.loader.record with
  | none => StationConfig.blank
  | some c => c

/-- The station is past loading with a good record: ANNOUNCING, ACTIVE or HALTED. In LOADING and
CONFIG_FAULT no block but the loader and the Status Port works (R5, R37, R66, R171). -/
abbrev State.loaded (s : State) : Prop :=
  s.loader.mode = .announcing ∨ s.loader.mode = .active ∨ s.loader.mode = .halted

/-- The blocks of drop role are present and past loading (00 "Block overview"; log 22). -/
abbrev State.dropLoaded (s : State) : Prop := s.loader.role = some .drop ∧ s.loaded

/-- The Gauge Unit is present and past loading (00 "Block overview"; log 22). -/
abbrev State.gaugeLoaded (s : State) : Prop := s.loader.role = some .gauge ∧ s.loaded

/-- Drop role in ACTIVE. -/
abbrev State.dropActive (s : State) : Prop := s.loader.role = some .drop ∧ s.loader.mode = .active

/-- Drop role, once the mode notice has gone out: ACTIVE or HALTED. -/
abbrev State.dropStarted (s : State) : Prop :=
  s.loader.role = some .drop ∧ (s.loader.mode = .active ∨ s.loader.mode = .halted)

/-- Gauge role in ACTIVE. -/
abbrev State.gaugeActive (s : State) : Prop := s.loader.role = some .gauge ∧ s.loader.mode = .active

/-- Offers are accepted in ANNOUNCING and ACTIVE only (R31). -/
abbrev State.offersAccepted (s : State) : Prop :=
  s.loader.mode = .announcing ∨ s.loader.mode = .active

/-- The station id as strapped (R168), 0 before it is read. -/
def State.stationId (s : State) : Nat :=
  match s.loader.id with
  | none => 0
  | some i => i.toNat

/-! ### Hand-overs between blocks -/

/-- Hands an arrival to another block: it is taken as an arrival of its own (R9). -/
def State.hand (i : Instr) (s : State) : State := { s with handed := s.handed ++ [i] }

/-- Hands several arrivals, in order. -/
def State.handAll (is : List Instr) (s : State) : State := { s with handed := s.handed ++ is }

/-- Takes an arrival: if it stands among those handed over, it stands there once less (log 1). -/
def State.taken (i : Instr) (s : State) : State := { s with handed := s.handed.erase i }

/-! ### Width filters (R1) -/

/-- The input becomes asserted: a filter in released begins to qualify. -/
def Filter.onAssert : Filter → Filter
  | .released => .qualifying 0
  | .stopped => .stopped
  | .qualifying n => .qualifying n
  | .held => .held

/-- The input is released: the filter returns to released. -/
def Filter.onRelease : Filter → Filter
  | .stopped => .stopped
  | .released => .released
  | .qualifying _ => .released
  | .held => .released

/-- Whether an assertion reaching its width can be this filter's: it is not stopped, and the present
assertion has not qualified already. An edge in released stands for the assertion and its width
together, and the pin's level stays as last reported: the model's choice (log 3). -/
def Filter.admitsEdge : Filter → Bool
  | .stopped => false
  | .released => true
  | .qualifying _ => true
  | .held => false

/-- One tick of the width count. -/
def Filter.tick (width : Ticks) : Filter → Filter
  | .qualifying n => .qualifying (min (n + 1) width)
  | .stopped => .stopped
  | .released => .released
  | .held => .held

/-- Whether the assertion has reached the width. -/
def Filter.due (width : Ticks) : Filter → Bool
  | .qualifying n => decide (width ≤ n)
  | .stopped => false
  | .released => false
  | .held => false

/-- A filter at its start: held if the input is already asserted (R5). -/
def Filter.start (asserted : Bool) : Filter := if asserted then .held else .released

/-! ### Distances and fractions -/

/-- (to − from) mod L: the carriers from one slot forward to another (R59, R68). -/
def forwardDistance (chainLength : Nat) (target origin : Slot) : Nat :=
  (target + (chainLength - origin % chainLength)) % chainLength

/-- Slot here as a number; 0 while it has no value, where no rule reads it. -/
def State.here (s : State) : Slot := s.tracker.slotHere.getD 0

/-- The remaining distance of a slot on the current numbering (R68). -/
def State.rem (s : State) (slot : Slot) : Nat := forwardDistance s.cfg.chainLength slot s.here

/-- The distance a slot has passed the gauge (R59). -/
def State.passed (s : State) (slot : Slot) : Nat := forwardDistance s.cfg.chainLength s.here slot

/-- floor(P × F / 256), the one scaling of fractions of the period (R15). -/
def fractionTicks (period : Ticks) (fraction : Nat) : Ticks := period * fraction / 256

/-- One tick of a timer that counts down. -/
def countDown : Option Ticks → Option Ticks
  | none => none
  | some n => some (n - 1)

end Sys2Proof.Machine
end

