-- ==== Sys2Proof/Machine/Cradles.lean ====
section
/-! DEFINITION. The Cradle Manager (chapter 6): the cradle records, their judgment after each count
operation, idle close, lot close, clears, the tie queue. -/

namespace Sys2Proof.Machine

/-! ### Records -/

/-- The record of a cradle. -/
def State.cradle (s : State) : CradleId → Cradle
  | .a => s.cradles.a
  | .b => s.cradles.b

/-- The state with a cradle's record replaced. -/
def State.setCradle (c : CradleId) (k : Cradle) (s : State) : State :=
  match c with
  | .a => { s with cradles := { s.cradles with a := k } }
  | .b => { s with cradles := { s.cradles with b := k } }

/-- The other cradle (00 Conventions). -/
def otherCradle : CradleId → CradleId
  | .a => .b
  | .b => .a

/-- A clear of the cradle waits on outstanding claims: SEALED with pending VOID (R129, R140, R150). -/
def State.voidPending (s : State) (c : CradleId) : Bool :=
  decide ((s.cradle c).state = .sealed ∧ (s.cradle c).pending = .void)

/-- The sum of a cradle: placed + won + tentative (06, section 6.1). -/
def Cradle.sum (k : Cradle) : Nat := k.placed + k.won + k.tentative

/-- The service entry of a class (R88). -/
def State.service? (s : State) (cls : Nat) : Option ServiceEntry :=
  s.cfg.services.find? (fun e => e.cls == cls)

/-- B of the class a cradle is bound to, 0 while it is bound to none (06, section 6.1). -/
def State.bunchSize (s : State) (k : Cradle) : Nat :=
  match k.binding with
  | none => 0
  | some b => match s.service? b.cls with
    | none => 0
    | some e => e.bunchSize

/-- The short minimum of the class a cradle is bound to (06, section 6.1). -/
def State.shortMinimum (s : State) (k : Cradle) : Nat :=
  match k.binding with
  | none => 0
  | some b => match s.service? b.cls with
    | none => 0
    | some e => e.shortMinimum

/-- Whether the head of the tie queue is a READY cradle. -/
def State.readyHead (s : State) : Option CradleId :=
  match s.cradles.tieQueue with
  | [] => none
  | c :: _ => if (s.cradle c).state = .ready then some c else none

/-! ### READY and EMPTY -/

/-- Hands the Tie Port a queue notice when the head of the tie queue is a READY cradle (R132). -/
def State.noticeHead (s : State) : State :=
  match s.readyHead with
  | none => s
  | some _ => s.hand .queueNotice

/-- The record of a cradle entering READY (R119 steps 1 to 3). -/
def Cradle.readyRecord (k : Cradle) (size : Nat) (bunch : Word16) : Cradle :=
  { k with
    state := .ready
    bunch := some bunch
    short := decide (k.placed < size)
    idleDue := false
    stale := false
    pending := .none }

/-- Entry to READY (R119). The queue notice goes out when the cradle is now the head. -/
def State.enterReady (c : CradleId) (s : State) : State :=
  let k := s.cradle c
  let seq := s.cradles.bunchSequence + 1#16
  let size := s.bunchSize k
  let s1 := s.setCradle c (k.readyRecord size seq)
  let s2 := { s1 with cradles := { s1.cradles with
    bunchSequence := seq, tieQueue := s1.cradles.tieQueue ++ [c] } }
  let s3 := s2.bump (if k.placed < size then .shortBunches else .fullBunches)
  if s.cradles.tieQueue = [] then s3.hand .queueNotice else s3

/-- Entry to EMPTY: every field at the EMPTY values, and a pass request (R120). -/
def State.enterEmpty (c : CradleId) (s : State) : State :=
  (s.setCradle c Cradle.emptyRecord).hand .passRequest

/-! ### Judgments -/

/-- The idle close of a cradle with nothing outstanding is judged (R122). -/
def State.judgeIdleClose (c : CradleId) (s : State) : State :=
  let k := s.cradle c
  if s.shortMinimum k ≤ k.placed then s.enterReady c
  else (s.setCradle c { k with idleDue := false, stale := true }).raise .stale

/-- Whether a cradle's idle close is to be judged: due, nothing outstanding, held clear (R122). -/
abbrev State.idleCloseReady (s : State) (c : CradleId) : Prop :=
  (s.cradle c).state = .opened ∧ (s.cradle c).idleDue = true ∧ (s.cradle c).won = 0
    ∧ (s.cradle c).tentative = 0 ∧ s.cradles.held = false

/-- Judges the idle close if it is to be judged. -/
def State.judgeIdleCloseIfReady (c : CradleId) (s : State) : State :=
  if s.idleCloseReady c then s.judgeIdleClose c else s

/-- Row 9 of R118: the cradle is OPEN; an unsealing requests a pass, a waiting idle close is judged. -/
def State.leaveOpen (c : CradleId) (s : State) : State :=
  let k := s.cradle c
  let s1 := s.setCradle c { k with state := .opened }
  let s2 := if k.state = .sealed then s1.hand .passRequest else s1
  s2.judgeIdleCloseIfReady c

/-- The judgment after a count operation, rows in the order of R118. -/
def State.judgeCradle (c : CradleId) (s : State) : State :=
  let k := s.cradle c
  let size := s.bunchSize k
  if k.pending = .void then
    if k.won = 0 ∧ k.tentative = 0 then s.enterEmpty c else s
  else if k.placed = size then s.enterReady c
  else if k.pending = .close then
    if k.won = 0 ∧ k.tentative = 0 then
      if 1 ≤ k.placed then s.enterReady c else s.enterEmpty c
    else s
  else if k.sum = size then s.setCradle c { k with state := .sealed, pending := .none }
  else if k.sum = 0 then s.enterEmpty c
  else s.leaveOpen c

/-! ### Count operations -/

/-- Count operations reach a cradle in OPEN or SEALED only (R113). -/
abbrev Cradle.countable (k : Cradle) : Prop := k.state = .opened ∨ k.state = .sealed

/-- RESERVE on an EMPTY cradle binds it (R114). -/
def Cradle.bind (k : Cradle) (cls lot : Nat) : Cradle :=
  { k with state := .opened, binding := some ⟨cls, lot⟩, idleCount := 0, idleDue := false, stale := false }

/-- RESERVE: one more tentative, the cradle bound if it was EMPTY, then judged (R114). -/
def State.reserve (c : CradleId) (cls lot : Nat) (s : State) : State :=
  let k := s.cradle c
  let k1 := if k.state = .empty then k.bind cls lot else k
  (s.setCradle c { k1 with tentative := k1.tentative + 1 }).judgeCradle c

/-- WIN: one from tentative to won, then judged (R115). Nothing to take: no effect (log 12). -/
def State.countWin (c : CradleId) (s : State) : State :=
  let k := s.cradle c
  if k.countable ∧ 0 < k.tentative then
    (s.setCradle c { k with tentative := k.tentative - 1, won := k.won + 1 }).judgeCradle c
  else s

/-- RETURN: one from tentative, then judged (R116). Nothing to take: no effect (log 12). -/
def State.countReturn (c : CradleId) (s : State) : State :=
  let k := s.cradle c
  if k.countable ∧ 0 < k.tentative then
    (s.setCradle c { k with tentative := k.tentative - 1 }).judgeCradle c
  else s

/-- MISS: one from won, then judged (R116). Nothing to take: no effect (log 12). -/
def State.countMiss (c : CradleId) (s : State) : State :=
  let k := s.cradle c
  if k.countable ∧ 0 < k.won then
    (s.setCradle c { k with won := k.won - 1 }).judgeCradle c
  else s

/-- The record a PLACE leaves before the judgment (R117, R130). -/
def Cradle.placeOne (k : Cradle) : Cradle :=
  { k with
    won := k.won - 1
    placed := if k.pending = .void then k.placed else k.placed + 1
    idleCount := 0
    idleDue := false
    stale := false }

/-- PLACE (R117). Nothing to take: no effect (log 12). -/
def State.countPlace (c : CradleId) (s : State) : State :=
  let k := s.cradle c
  if k.countable ∧ 0 < k.won then (s.setCradle c k.placeOne).judgeCradle c else s

/-! ### Idle count, lot close, hold, clear, tie result -/

/-- One cradle's idle count at a carrier arrival (R121). With an idle limit of 1 the arrival after a PLACE brings the
count to the limit, and the close falls due by R121, where R123 says of that order that none does; the model follows
R121 (log 35). -/
def State.countIdle (c : CradleId) (s : State) : State :=
  let k := s.cradle c
  if k.state = .opened ∧ s.cradles.held = false then
    let n := min (k.idleCount + 1) idleCountLimit
    if k.idleCount < s.cfg.idleLimit ∧ n = s.cfg.idleLimit then
      (s.setCradle c { k with idleCount := n, idleDue := true }).judgeIdleCloseIfReady c
    else s.setCradle c { k with idleCount := n }
  else s

/-- One cradle at a close of its lot (R124). -/
def State.closeCradle (c : CradleId) (s : State) : State :=
  let k := s.cradle c
  if k.state = .opened then
    if k.won = 0 ∧ k.tentative = 0 then s.enterReady c
    else s.setCradle c { k with state := .sealed, pending := .close, idleDue := false, stale := false }
  else if k.state = .sealed ∧ k.pending = .none then
    s.setCradle c { k with pending := .close, idleDue := false, stale := false }
  else s

/-- One cradle at a close of a lot, if it is bound to that lot (R124). -/
def State.closeCradleOfLot (lotNo : Nat) (c : CradleId) (s : State) : State :=
  match (s.cradle c).binding with
  | none => s
  | some b => if b.lot = lotNo then s.closeCradle c else s

/-- The record a clear leaves in OPEN or SEALED before the judgment (R129 steps 1 and 2). -/
def Cradle.voidRecord (k : Cradle) : Cradle :=
  { k with placed := 0, idleDue := false, stale := false, short := false, state := .sealed, pending := .void }

/-- The cradle leaves the tie queue. -/
def State.leaveTieQueue (c : CradleId) (s : State) : State :=
  { s with cradles := { s.cradles with tieQueue := s.cradles.tieQueue.filter (fun d => d != c) } }

/-- Whether a cradle stands at the head of the tie queue. -/
def State.isHead (s : State) (c : CradleId) : Bool := s.cradles.tieQueue.head? == some c

/-- A clear from READY (R128). -/
def State.clearReady (c : CradleId) (s : State) : State :=
  let s1 := (((s.leaveTieQueue c).enterEmpty c).bump .voidedBunches)
  if s.isHead c = true then s1.noticeHead else s1

/-- A clear from OPEN or SEALED (R129). -/
def State.clearBound (c : CradleId) (s : State) : State :=
  let s1 := (s.setCradle c (s.cradle c).voidRecord).bump .voidedBunches
  (s1.handAll [.clearNoticeFlightTable c, .clearNoticeRelease c]).judgeCradle c

/-- A clear taken according to the cradle's state (R128). -/
def State.clearCradle (c : CradleId) (s : State) : State :=
  match (s.cradle c).state with
  | .empty => s
  | .tying => s
  | .ready => s.clearReady c
  | .faulted => s.enterEmpty c
  | .opened => s.clearBound c
  | .sealed => if (s.cradle c).pending = .void then s else s.clearBound c

/-- A tie result: the cradle leaves the tie queue and becomes EMPTY or FAULTED (R134). For a cradle that is not
TYING, which has no tie in progress, it has no effect (log 12). -/
def State.takeTieResult (c : CradleId) (code : TieCode) (s : State) : State :=
  if (s.cradle c).state = .tying then
    let s1 := s.leaveTieQueue c
    let s2 := match code with
      | .tied => s1.enterEmpty c
      | .rework => s1.enterEmpty c
      | .quit => (s1.setCradle c { s1.cradle c with state := .faulted }).raise .tieFault
      | .noAck => (s1.setCradle c { s1.cradle c with state := .faulted }).raise .tieFault
      | .timeout => (s1.setCradle c { s1.cradle c with state := .faulted }).raise .tieFault
    s2.noticeHead
  else s

/-- The clear filter of a cradle (R127). -/
def State.clearFilter (s : State) : CradleId → Filter
  | .a => s.cradles.clrA
  | .b => s.cradles.clrB

/-- The state with a cradle's clear filter replaced. -/
def State.setClearFilter (c : CradleId) (f : Filter) (s : State) : State :=
  match c with
  | .a => { s with cradles := { s.cradles with clrA := f } }
  | .b => { s with cradles := { s.cradles with clrB := f } }

/-! ### Meanings -/

/-- WIN (R115). -/
def execWin (c : CradleId) (s : State) : Result :=
  let s := s.taken (.win c)
  .next (if s.dropLoaded then s.countWin c else s)

/-- RETURN (R116). -/
def execReturn (c : CradleId) (s : State) : Result :=
  let s := s.taken (.returnCount c)
  .next (if s.dropLoaded then s.countReturn c else s)

/-- MISS (R116). -/
def execMiss (c : CradleId) (s : State) : Result :=
  let s := s.taken (.miss c)
  .next (if s.dropLoaded then s.countMiss c else s)

/-- PLACE (R117). -/
def execPlace (c : CradleId) (s : State) : Result :=
  let s := s.taken (.place c)
  .next (if s.dropLoaded then s.countPlace c else s)

/-- CRADLE_CARRIER_ARRIVAL: counted in ACTIVE (R121, R137). Where both idle counts reach the limit at one arrival
the rules name no order; A goes before B by the model's choice (log 32). -/
def execCradleCarrierArrival (arrival : Arrival) (s : State) : Result :=
  let s := s.taken (.cradleCarrierArrival arrival)
  .next (if s.dropActive then (s.countIdle .a).countIdle .b else s)

/-- CLOSE_LOT: each cradle bound to the lot, A before B (R124). -/
def execCloseLot (lotNo : Nat) (s : State) : Result :=
  let s := s.taken (.closeLot lotNo)
  .next (if s.dropLoaded then (s.closeCradleOfLot lotNo .a).closeCradleOfLot lotNo .b else s)

/-- HOLD_NOTICE_CRADLE: the held copy; at a release the waiting idle closes, A before B (R126). -/
def execHoldNoticeCradle (held : Bool) (s : State) : Result :=
  let s := s.taken (.holdNoticeCradle held)
  .next (if s.dropActive then
    let s1 := { s with cradles := { s.cradles with held := held } }
    if held = true then s1 else (s1.judgeIdleCloseIfReady .a).judgeIdleCloseIfReady .b
  else s)

/-- CLEAR: a CLR press that has qualified (R127), taken in ANNOUNCING, ACTIVE and HALTED (R128, R129). -/
def execClear (c : CradleId) (s : State) : Result :=
  .next (if s.dropLoaded ∧ (s.clearFilter c).admitsEdge = true then
    (s.setClearFilter c .held).clearCradle c
  else s)

/-- TIE_RESULT (R134). -/
def execTieResult (c : CradleId) (code : TieCode) (s : State) : Result :=
  let s := s.taken (.tieResult c code)
  .next (if s.dropLoaded then s.takeTieResult c code else s)

/-- UNCERTAIN_MARK: in every state of the cradle (R135). -/
def execUncertainMark (c : CradleId) (s : State) : Result :=
  let s := s.taken (.uncertainMark c)
  .next (if s.dropLoaded then s.setCradle c { s.cradle c with uncertain := true } else s)

end Sys2Proof.Machine
end

