-- ==== Sys2Proof/Machine/Operands.lean ====
section
/-! DEFINITION. The layouts of chapter 11: frames and their CRC (R21, R24, R183), the configuration
record (R184), the scan record, the tie command record and the status word (R185). -/

namespace Sys2Proof.Machine

/-! ### The CRC (R24) -/

/-- One bit into the register, x^16 + x^12 + x^5 + 1, at the most significant end. -/
def crcBit (register : Word16) (bit : Bool) : Word16 :=
  if (register.msb != bit) then (register <<< 1) ^^^ 0x1021#16 else register <<< 1

/-- One character, most significant bit first. -/
def crcByte (register : Word16) (char : Byte) : Word16 :=
  [7, 6, 5, 4, 3, 2, 1, 0].foldl (fun r i => crcBit r (char.getLsbD i)) register

/-- The register run over characters from all ones. -/
def crcOf (chars : List Byte) : Word16 := chars.foldl crcByte 0xFFFF#16

/-- The CRC is good when the register ends at zero over every character, the CRC's two included. -/
def crcGood (chars : List Byte) : Bool := crcOf chars == 0#16

/-! ### Numbers as characters, high first -/

/-- The low `n` bytes of a number, high byte first. -/
def bytesOf : Nat → Nat → List Byte
  | 0, _ => []
  | n + 1, v => BitVec.ofNat 8 (v / 256 ^ n) :: bytesOf n v

/-- The number that bytes spell, high byte first. -/
def numberOf (bytes : List Byte) : Nat := bytes.foldl (fun acc b => acc * 256 + b.toNat) 0

/-- The bits of a character or byte, most significant first. -/
def bitsOf (byte : Byte) : List Bool := [7, 6, 5, 4, 3, 2, 1, 0].map (fun i => byte.getLsbD i)

/-- The byte that eight bits spell, most significant first. -/
def byteOfBits (bits : List Bool) : Byte := BitVec.ofNat 8 (bits.foldl (fun n b => 2 * n + b.toNat) 0)

/-! ### Characters on the line (R18): true is the dominant level, a 1; false the recessive, a 0 -/

/-- The level of the line: dominant when any station drives it (R18). -/
def lineOf (driven : List Bool) : Bool := driven.any id

/-- The ten levels of a character: a dominant start bit, the data bits, most significant first, a recessive
stop bit (R18). -/
def characterLevels (char : Byte) : List Bool := true :: (bitsOf char ++ [false])

/-- The character that ten levels read from a start edge spell; none where the stop bit is read dominant, a
framing error (R18, R23). -/
def readCharacter (levels : List Bool) : Option Byte :=
  if levels.length = 10 ∧ levels.head? = some true ∧ levels.getLast? = some false then
    some (byteOfBits ((levels.drop 1).take 8))
  else none

/-! ### Frames (R21, R183) -/

/-- The kind code of a frame (R21). -/
def kindCode : FrameBody → Nat
  | .stem _ _ _ _ _ => 6
  | .yield _ _ => 5
  | .claim _ _ => 3
  | .lot _ _ => 2
  | .hello _ => 1

/-- Payload characters of a kind code, none for the unassigned codes (02, section 2.4). -/
def payloadChars : Nat → Option Nat
  | 6 => some 5
  | 5 => some 2
  | 3 => some 2
  | 2 => some 2
  | 1 => some 1
  | _ => none

/-- Contention value: kind code × 8,192 + kind-specific value × 64 + id (R21). -/
def contentionValue (kind specific id : Nat) : Nat := kind * 8192 + specific * 64 + id

/-- The frame a station makes for a kind whose kind-specific bits are zero (R21). -/
def plainFrame (id : Nat) (body : FrameBody) : Frame := ⟨contentionValue (kindCode body) 0 id, body⟩

/-- The id in a frame's contention value (02, section 2.4). -/
def Frame.sender (f : Frame) : Nat := f.value % 64

/-- Codes of the STEM reason (R183). -/
def rejectCode : RejectReason → Nat
  | .none => 0
  | .short => 1
  | .unmeasured => 2
  | .unsteady => 3

/-- The STEM reason of a two-bit code (R183). -/
def rejectOf (code : Nat) : RejectReason :=
  if code = 0 then .none else if code = 1 then .short else if code = 2 then .unmeasured else .unsteady

/-- Codes of the YIELD reason (R183). -/
def yieldCode : YieldReason → Nat
  | .skip => 0
  | .hold => 1
  | .miss => 2
  | .void => 3

/-- The YIELD reason of a two-bit code (R183). -/
def yieldOf (code : Nat) : YieldReason :=
  if code = 0 then .skip else if code = 1 then .hold else if code = 2 then .miss else .void

/-- Codes of a cradle: 0 A, 1 B (R183, R185). -/
def cradleCode : CradleId → Nat
  | .a => 0
  | .b => 1

/-- The cradle of a one-bit code. -/
def cradleOf (code : Nat) : CradleId := if code = 0 then .a else .b

/-- Codes of the HELLO role: 1 gauge, 2 drop (R183). -/
def roleCode : Role → Nat
  | .gauge => 1
  | .drop => 2

/-- A frame's payload as a number: its fields in order, then the zero fill (R183). -/
def payloadNumber : FrameBody → Nat
  | .stem slot cls length lotNo reason =>
    ((((slot * 16 + cls) * 2048 + length) * 16 + lotNo) * 4 + rejectCode reason) * 512
  | .claim slot cradle => (slot * 2 + cradleCode cradle) * 32
  | .yield slot reason => (slot * 4 + yieldCode reason) * 16
  | .lot lotNo lastSlot => (lotNo * 1024 + lastSlot) * 4
  | .hello code => code

/-- The payload characters of a frame. -/
def payloadBytes (body : FrameBody) : List Byte :=
  bytesOf ((payloadChars (kindCode body)).getD 0) (payloadNumber body)

/-- The characters of a frame before its CRC (R183). -/
def bodyBytes (f : Frame) : List Byte := bytesOf 2 f.value ++ payloadBytes f.body

/-- The characters a station puts on the line for a frame, the CRC high half first (R24, R183). -/
def frameBytes (f : Frame) : List Byte := bodyBytes f ++ bytesOf 2 (crcOf (bodyBytes f)).toNat

/-- The levels of a frame on the line, each character directly after the stop bit of the one before (R18). -/
def frameLevels (f : Frame) : List Bool := (frameBytes f).flatMap characterLevels

/-- The payload of a kind code, read from its number; the fill is read into no field (R183). -/
def bodyOf (kind payload : Nat) : Option FrameBody :=
  if kind = 6 then
    some (.stem (payload / 2 ^ 30 % 1024) (payload / 2 ^ 26 % 16) (payload / 2 ^ 15 % 2048)
      (payload / 2 ^ 11 % 16) (rejectOf (payload / 2 ^ 9 % 4)))
  else if kind = 5 then some (.yield (payload / 64 % 1024) (yieldOf (payload / 16 % 4)))
  else if kind = 3 then some (.claim (payload / 64 % 1024) (cradleOf (payload / 32 % 2)))
  else if kind = 2 then some (.lot (payload / 4096 % 16) (payload / 4 % 1024))
  else if kind = 1 then some (.hello (payload % 256))
  else none

/-- The frame that characters assembled from the line make, or none where R23 discards them: an
unassigned kind, a wrong length or a bad CRC. -/
def parseFrame (chars : List Byte) : Option Frame :=
  let value := numberOf (chars.take 2)
  let kind := value / 8192
  match payloadChars kind with
  | none => none
  | some n =>
    if chars.length = n + 4 ∧ crcGood chars = true then
      (bodyOf kind (numberOf ((chars.drop 2).take n))).map (fun body => ⟨value, body⟩)
    else none

/-! ### Scan record and status word (R185) -/

/-- The result of a complete scan record in a curtain of `beams` beams (R40, R185). -/
def scanResultOf (beams : Nat) (record : Word16) : ScanResult :=
  let status := record.toNat / 16384
  let beam := record.toNat % 256
  if status = 0 then .clear
  else if status = 1 then (if beam < beams then .stem beam else .blocked)
  else if status = 2 then .blocked
  else .lost

/-- The return code of a status word's outcome; an unassigned code is QUIT (R160, R185). -/
def tieCodeOf (word : Word16) : TieCode :=
  let outcome := word.toNat / 16384
  if outcome = 0 then .tied else if outcome = 1 then .rework else .quit

/-- The counted stems of a status word (R185). -/
def countedStems (word : Word16) : Nat := word.toNat / 256 % 64

/-- The tier fault code of a status word (R185). -/
def tierFault (word : Word16) : BitVec 4 := word.truncate 4

/-- Return codes as the status record numbers them (R161, R186). -/
def tieCodeNumber : TieCode → Nat
  | .tied => 0
  | .rework => 1
  | .quit => 2
  | .noAck => 3
  | .timeout => 4

/-- 1 for true. -/
def bitOf (b : Bool) : Nat := if b then 1 else 0

/-- The 40 bits of a tie command record, kind 0 TIE or 1 ABORT (R185). -/
def tieCommandBits (abort : Bool) (r : TieRecord) : BitVec 40 :=
  BitVec.ofNat 40 (bitOf abort * 2 ^ 39 + cradleCode r.cradle * 2 ^ 38 + bitOf r.short * 2 ^ 37
    + bitOf r.uncertain * 2 ^ 36 + r.cls % 16 * 2 ^ 32 + r.lot % 16 * 2 ^ 28 + r.count % 64 * 2 ^ 16
    + r.bunch.toNat)

/-- The ABORT sent when no TIE record has been sent since reset: cradle A and zeros (R156). -/
def blankTieRecord : TieRecord where
  cradle := .a
  cls := 0
  lot := 0
  count := 0
  bunch := 0
  short := false
  uncertain := false

/-! ### Configuration record (R184) -/

/-- The byte at a position of the record. -/
def byteAt (record : List Byte) (i : Nat) : Nat := (record.getD i 0).toNat

/-- The two-byte field at a position, high byte first. -/
def pairAt (record : List Byte) (i : Nat) : Nat := byteAt record i * 256 + byteAt record (i + 1)

/-- The 128 bytes the loader has clocked in: positions the memory left undriven read as all ones
(R169). -/
def readRecord (bytes : List Byte) : List Byte :=
  (bytes ++ List.replicate recordBytes 255#8).take recordBytes

/-- Service entry number `i` from 0, as stored (R184 bytes 33 to 48). -/
def serviceAt (record : List Byte) (i : Nat) : ServiceEntry where
  cls := byteAt record (33 + 4 * i)
  bunchSize := byteAt record (34 + 4 * i)
  shortMinimum := byteAt record (35 + 4 * i)
  secondary := byteAt record (36 + 4 * i) == 1

/-- The service entries within the count (R184). -/
def servicesOf (record : List Byte) : List ServiceEntry :=
  (List.range (byteAt record 32)).map (serviceAt record)

/-- The class bounds within the count (R184). -/
def boundsOf (record : List Byte) : List Nat :=
  (List.range (byteAt record 78)).map (fun i => pairAt record (79 + 2 * i))

/-- Whether a number lies outside a..b. -/
def outside (a b n : Nat) : Bool := decide (n < a ∨ b < n)

/-- Whether a list rises strictly. -/
def strictlyAscending : List Nat → Bool
  | [] => true
  | [_] => true
  | a :: b :: rest => decide (a < b) && strictlyAscending (b :: rest)

/-- Whether a stored service entry is out of range (check 11). -/
def serviceBad (record : List Byte) (i : Nat) : Bool :=
  decide (15 < byteAt record (33 + 4 * i)) || outside 1 40 (byteAt record (34 + 4 * i))
    || outside 1 (byteAt record (34 + 4 * i)) (byteAt record (35 + 4 * i))
    || decide (1 < byteAt record (36 + 4 * i))

/-- Checks 2 to 8, both roles: check number and whether the record fails it (R170). -/
def commonChecks (id : Nat) (record : List Byte) : List (Nat × Bool) :=
  let pMin := pairAt record 4
  let pNom := pairAt record 6
  [ (2, !crcGood record),
    (3, byteAt record 0 != 1),
    (4, id == 0 || id == 63),
    (5, outside 64 1023 (pairAt record 2)),
    (6, decide (2 < byteAt record 1)),
    (7, outside 20 2000 pMin || outside 20 2000 pNom || decide (pNom < pMin)),
    (8, byteAt record 8 == 0 || byteAt record 9 == 0) ]

/-- Checks 9 to 16, drop role (R170). -/
def dropChecks (record : List Byte) : List (Nat × Bool) :=
  let chain := pairAt record 2
  let depth := pairAt record 16
  let horizon := byteAt record 18
  let entries := byteAt record 32
  [ (9, outside 1 383 depth || decide (chain ≤ depth)),
    (10, outside 1 15 horizon || decide (depth ≤ horizon)),
    (11, outside 1 4 entries || (List.range entries).any (serviceBad record)
      || !decide ((List.range entries).map (fun i => byteAt record (33 + 4 * i))).Nodup
      || decide (idleCountLimit < pairAt record 22)),
    (12, outside 1 63 (byteAt record 19)),
    (13, outside 1 100 (byteAt record 24) || outside 1 (byteAt record 24) (byteAt record 25)
      || decide (50 < byteAt record 26)),
    (14, outside 1 100 (byteAt record 29) || byteAt record 28 == 0 || byteAt record 30 == 0
      || byteAt record 31 == 0),
    (15, decide (3 < byteAt record 20)),
    (16, outside 1 63 (byteAt record 21)) ]

/-- Checks 17 to 25, gauge role (R170). -/
def gaugeChecks (record : List Byte) : List (Nat × Bool) :=
  let chain := pairAt record 2
  let scans := byteAt record 69
  let bounds := byteAt record 78
  let horizon := pairAt record 76
  [ (17, outside 16 256 (pairAt record 64)),
    (18, outside 20 100 (byteAt record 66)),
    (19, outside 1 15 scans || outside 1 scans (byteAt record 70)),
    (20, decide (15 < byteAt record 71)),
    (21, decide (255 < byteAt record 72 + (scans - 1) * byteAt record 73)),
    (22, outside 1 15 bounds || (boundsOf record).any (outside 1 lengthLimit)
      || !strictlyAscending (boundsOf record)),
    (23, outside 1 15 (byteAt record 75)),
    (24, outside 2 1023 horizon || decide (chain ≤ horizon)),
    (25, byteAt record 74 == 0) ]

/-- The checks of a role after the read, in ascending order (R170). -/
def roleChecks (role : Role) (id : Nat) (record : List Byte) : List (Nat × Bool) :=
  match role with
  | .drop => commonChecks id record ++ dropChecks record
  | .gauge => commonChecks id record ++ gaugeChecks record

/-- The number of the first failed check, or 0 (R170). -/
def firstFailure : List (Nat × Bool) → Nat
  | [] => 0
  | (n, failed) :: rest => if failed then n else firstFailure rest

/-- The configuration reason code of a record (R170). -/
def reasonOf (role : Role) (id : Nat) (record : List Byte) : Nat :=
  firstFailure (roleChecks role id record)

/-- The fields of both roles, times in ticks (R172). -/
def commonConfig (record : List Byte) : StationConfig :=
  { StationConfig.blank with
    bitRate := byteAt record 1
    chainLength := pairAt record 2
    periodMin := pairAt record 4 * 100
    periodNominal := pairAt record 6 * 100
    cpWidth := byteAt record 8 * 10
    gateWidth := byteAt record 9 * 10 }

/-- The record of a drop station, times in ticks (R172, R184). -/
def dropConfig (record : List Byte) : StationConfig :=
  { commonConfig record with
    depth := pairAt record 16
    claimHorizon := byteAt record 18
    secondaryDepth := byteAt record 19
    flapGap := byteAt record 20
    yieldLifetime := byteAt record 21
    idleLimit := pairAt record 22
    pulseWidth := byteAt record 24 * 100
    pulseMinimum := byteAt record 25 * 100
    releaseGuard := byteAt record 26 * 100
    releaseFraction := byteAt record 27
    settleTime := byteAt record 28 * 100
    confirmTime := byteAt record 29 * 500
    ackLimit := byteAt record 30 * 100
    tieLimit := byteAt record 31 * 10000
    services := servicesOf record }

/-- The record of a gauge station, times in ticks (R172, R184). -/
def gaugeConfig (record : List Byte) : StationConfig :=
  { commonConfig record with
    beams := pairAt record 64
    beamPitch := byteAt record 66
    gripOffset := pairAt record 67
    scanCount := byteAt record 69
    validMinimum := byteAt record 70
    spreadLimit := byteAt record 71
    scanStart := byteAt record 72
    scanStep := byteAt record 73
    responseLimit := byteAt record 74 * 10
    stemLifetime := byteAt record 75
    runOutHorizon := pairAt record 76
    classBounds := boundsOf record }

/-- The record taken into use in a role (R172; log 19). -/
def configOf (role : Role) (record : List Byte) : StationConfig :=
  match role with
  | .drop => dropConfig record
  | .gauge => gaugeConfig record

end Sys2Proof.Machine
end

