-- ==== Sys2Proof/Machine/Queue.lean ====
section
/-! DEFINITION. The transmit queue (02, section 2.7): offers, evictions, deadlines, removals. -/

namespace Sys2Proof.Machine

/-- The outcome of a frame, as an arrival at its owner (R30, R33). -/
def outcomeArrival (body : FrameBody) (outcome : FrameOutcome) : Instr :=
  match body with
  | .stem slot _ _ _ _ => .stemOutcome slot outcome
  | .claim slot _ => .claimOutcome slot outcome
  | .yield slot reason => .yieldOutcome slot reason outcome
  | .lot lotNo lastSlot => .lotOutcome lotNo lastSlot outcome
  | .hello _ => .helloOutcome outcome

/-- The slot of a CLAIM. -/
def claimSlot : FrameBody → Option Slot
  | .claim slot _ => some slot
  | .stem _ _ _ _ _ => none
  | .yield _ _ => none
  | .lot _ _ => none
  | .hello _ => none

/-- Whether a frame is a CLAIM for a slot. -/
def isClaimFor (slot : Slot) (body : FrameBody) : Bool := claimSlot body == some slot

/-- Whether a frame is the one a removal request names: the CLAIM of the slot, or the same frame. -/
def sameFrame (asked body : FrameBody) : Bool :=
  match claimSlot asked with
  | some slot => isClaimFor slot body
  | none => asked == body

/-- The deadline a frame carries: Hs, Ly, Hc, or none (R32). -/
def deadlineOf (cfg : StationConfig) : FrameBody → Option Nat
  | .stem _ _ _ _ _ => some cfg.stemLifetime
  | .yield _ _ => some cfg.yieldLifetime
  | .claim _ _ => some cfg.claimHorizon
  | .lot _ _ => none
  | .hello _ => none

/-- A frame at its joining (R30, R32). -/
def newQueued (cfg : StationConfig) (f : Frame) : QueuedFrame where
  frame := f
  deadline := deadlineOf cfg f.body
  count := 0
  contended := false
  heldEvent := none

/-- Joins at its place: descending contention value, equal values in the order they joined (R30). -/
def insertByValue (q : QueuedFrame) : List QueuedFrame → List QueuedFrame
  | [] => [q]
  | x :: rest =>
    if x.frame.value < q.frame.value then q :: x :: rest else x :: insertByValue q rest

/-- The slot of the last CLAIM in queue order that is not being contended (R31). -/
def lastEvictable : List QueuedFrame → Option Slot
  | [] => none
  | q :: rest =>
    match lastEvictable rest with
    | some slot => some slot
    | none => if q.contended then none else claimSlot q.frame.body

/-- Whether a CLAIM for the slot is queued. -/
def claimQueued (queue : List QueuedFrame) (slot : Slot) : Bool :=
  queue.any (fun q => isClaimFor slot q.frame.body)

/-- The queue's answer to an offer (R31). -/
inductive OfferAnswer where
  | joined | dropped | refused
  deriving DecidableEq, Repr

/-- The queue takes a frame in at its place. -/
def State.enqueue (f : Frame) (s : State) : State :=
  { s with bus := { s.bus with queue := insertByValue (newQueued s.cfg f) s.bus.queue } }

/-- The CLAIM for a slot leaves the queue. -/
def State.dequeueClaim (slot : Slot) (s : State) : State :=
  { s with bus := { s.bus with queue := s.bus.queue.filter (fun q => !isClaimFor slot q.frame.body) } }

/-- The last evictable CLAIM leaves with EVICTED and the new frame joins (R31). -/
def State.evictFor (slot : Slot) (f : Frame) (s : State) : State :=
  (((s.dequeueClaim slot).bump .framesDropped).hand (.claimOutcome slot .evicted)).enqueue f

/-- An offer to the transmit queue (R31). -/
def State.offer (f : Frame) (s : State) : OfferAnswer × State :=
  if ¬ s.offersAccepted then (.refused, s)
  else
    match claimSlot f.body with
    | some slot =>
      if claimQueued s.bus.queue slot = true then (.refused, s)
      else if s.bus.queue.length < queueCapacity then (.joined, s.enqueue f)
      else (.refused, s)
    | none =>
      if s.bus.queue.length < queueCapacity then (.joined, s.enqueue f)
      else
        match lastEvictable s.bus.queue with
        | some slot => (.joined, s.evictFor slot f)
        | none => (.dropped, s.bump .framesDropped)

/-- The state after an offer whose answer asks nothing of its owner (R54, R58, R109, R173). -/
def State.offered (f : Frame) (s : State) : State := (s.offer f).2

/-- A removal request marks a frame being contended: it is held until the contention ends, unless an
earlier event is held (R30). -/
def holdRemoval (body : FrameBody) (q : QueuedFrame) : QueuedFrame :=
  if sameFrame body q.frame.body = true ∧ q.contended = true then
    { q with heldEvent := some (q.heldEvent.getD .removed) }
  else q

/-- Where a removal request finds its frame: the answer it gets now (R30, R33). -/
def LineBus.removalAnswerNow (body : FrameBody) (b : LineBus) : RemovalAnswer :=
  match b.queue.find? (fun q => sameFrame body q.frame.body) with
  | some q => if q.contended = true then .deferred else .removed
  | none => if b.sending.any (fun f => sameFrame body f.body) = true then .inTransmission else .notQueued

/-- What a removal request does to the queue: the frame leaves it, or, being contended, holds the request for the end
of the contention (R30, R33). -/
def LineBus.takeRemoval (body : FrameBody) (answer : RemovalAnswer) (b : LineBus) : LineBus :=
  match answer with
  | .deferred => { b with queue := b.queue.map (holdRemoval body), removalHeld := some body }
  | .removed => { b with queue := b.queue.eraseP (fun q => sameFrame body q.frame.body) }
  | .inTransmission => b
  | .notQueued => b

/-- A removal request: the queue's answer and the state it leaves (R30, R33; log 16). -/
def State.requestRemoval (body : FrameBody) (s : State) : RemovalAnswer × State :=
  let answer := s.bus.removalAnswerNow body
  (answer, { s with bus := { s.bus.takeRemoval body answer with removalAnswer := some ⟨body, answer⟩ } })

/-- Whether a notice finds a frame's deadline passed, its carrier count already raised (R32). -/
def deadlinePassed (chainLength : Nat) (slotHere : Slot) (q : QueuedFrame) : Bool :=
  match q.deadline with
  | none => false
  | some limit =>
    match claimSlot q.frame.body with
    | some slot => decide (forwardDistance chainLength slot slotHere ≤ limit)
    | none => decide (limit ≤ q.count)

/-- A notice raises the carrier count of a frame that has one (R32). -/
def raiseCount (q : QueuedFrame) : QueuedFrame :=
  match q.frame.body with
  | .stem _ _ _ _ _ => { q with count := q.count + 1 }
  | .yield _ _ => { q with count := q.count + 1 }
  | .claim _ _ => q
  | .lot _ _ => q
  | .hello _ => q

/-- A frame being contended whose deadline a notice finds passed holds the expiry, unless an earlier
event is held (R30). -/
def holdExpiry (chainLength : Nat) (slotHere : Slot) (q : QueuedFrame) : QueuedFrame :=
  if deadlinePassed chainLength slotHere q = true ∧ q.contended = true then
    { q with heldEvent := some (q.heldEvent.getD .expired) }
  else q

/-- A frame leaves with EXPIRED: counted dropped, its owner told (R32). -/
def State.expire (body : FrameBody) (s : State) : State :=
  (s.bump .framesDropped).hand (outcomeArrival body .expired)

/-- A carrier notice (R32). Frames that it finds past their deadline leave with EXPIRED in queue order, by the model's
choice (log 39). -/
def State.takeCarrierNotice (slotHere : Slot) (s : State) : State :=
  let len := s.cfg.chainLength
  let aged := s.bus.queue.map raiseCount
  let leaving := aged.filter (fun q => deadlinePassed len slotHere q && !q.contended)
  let staying := (aged.filter (fun q => !(deadlinePassed len slotHere q && !q.contended))).map
    (holdExpiry len slotHere)
  leaving.foldl (fun t q => t.expire q.frame.body) { s with bus := { s.bus with queue := staying } }

end Sys2Proof.Machine
end

