-- ==== Sys2Proof/Machine/FlightTable.lean ====
section
/-! DEFINITION. The Flight Table (chapter 4): admission, heard frames, withdrawal and yielding, the
carrier arrival with its pass event and claim deadline, slip, the lot-close list. -/

namespace Sys2Proof.Machine

/-! ### The list of entries -/

/-- The entry for a slot. -/
def State.entry? (s : State) (slot : Slot) : Option FlightEntry :=
  s.table.entries.find? (fun e => e.slot == slot)

/-- Joins at its place by a key, before the first element of a greater key (R67, R80). -/
def insertByKey {α : Type} (key : α → Nat) (x : α) : List α → List α
  | [] => [x]
  | y :: rest => if key x < key y then x :: y :: rest else y :: insertByKey key x rest

/-- A list in ascending order of a key, equal keys in their former order. -/
def sortByKey {α : Type} (key : α → Nat) : List α → List α
  | [] => []
  | x :: rest => insertByKeyFirst key x (sortByKey key rest)
where
  /-- Joins before the first element whose key is not smaller. -/
  insertByKeyFirst {α : Type} (key : α → Nat) (x : α) : List α → List α
    | [] => [x]
    | y :: rest => if key x ≤ key y then x :: y :: rest else y :: insertByKeyFirst key x rest

/-- An entry takes a new state. -/
def State.setEntry (slot : Slot) (st : EntryState) (s : State) : State :=
  { s with table := { s.table with
    entries := s.table.entries.map (fun e => if e.slot = slot then { e with state := st } else e) } }

/-- An entry leaves the table (R67). -/
def State.removeEntry (slot : Slot) (s : State) : State :=
  { s with table := { s.table with entries := s.table.entries.filter (fun e => e.slot != slot) } }

/-- An entry joins at its place by remaining distance (R67). Between a slip of the tracker and the table's own taking of
it the list still stands in its former order; the entry joins before the first one farther by the distances of now, by
the model's choice (log 38). -/
def State.joinEntry (e : FlightEntry) (s : State) : State :=
  { s with table := { s.table with entries := insertByKey (fun x => s.rem x.slot) e s.table.entries } }

/-! ### Withdrawal and yielding -/

/-- A withdrawal carried out: the entry takes its target, RETURN is applied to its cradle, the
claims-withdrawn counter rises (R74). -/
def State.withdrawNow (slot : Slot) (c : CradleId) (target : WithdrawalTarget) (s : State) : State :=
  let s1 := match target with
    | .unclaimed => s.setEntry slot .unclaimed
    | .other claimant => s.setEntry slot (.other claimant)
    | .released => s.setEntry slot .released
    | .removal => s.removeEntry slot
  (s1.hand (.returnCount c)).bump .claimsWithdrawn

/-- The pending yield after a withdrawal that waits on a frame in transmission: the cause's reason, if
it has one (R74). -/
def laterReason (reason former : Option YieldReason) : Option YieldReason :=
  match reason with
  | some r => some r
  | none => former

/-- A withdrawal joins one already waiting for the queue's answer: the first target stands, a later
reason replaces an earlier one (R30, R74; log 16). -/
def mergeWithdrawal (w : Withdrawal) (asked : Option Withdrawal) : Withdrawal :=
  match asked with
  | none => w
  | some first => { first with reason := laterReason w.reason first.reason }

/-- Whether an arrival is the end on the line of this station's CLAIM for a slot: the CLAIM heard, or its
outcome SPOILED. -/
def isOwnEnd (id : Nat) (slot : Slot) : Instr → Bool
  | .flightTableClaim x _ sender => x == slot && sender == id
  | .claimOutcome x outcome => x == slot && outcome == .spoiled
  | _ => false

/-- This station's CLAIM for a slot has ended on the line and the Flight Table has not yet taken that end
(R105; log 28). -/
def State.claimEnding (s : State) (slot : Slot) : Bool := s.handed.any (isOwnEnd s.stationId slot)

/-- The queue's answer as a withdrawal takes it: a CLAIM whose end is still to be taken counts as in
transmission, so that the end decides (R77, R101, R105; log 28). -/
def State.answerFor (slot : Slot) (answer : RemovalAnswer) (s : State) : RemovalAnswer :=
  if answer = .notQueued ∧ s.claimEnding slot = true then .inTransmission else answer

/-- Withdraws the claim of a TENTATIVE entry for a cause other than a frame outcome (R74): the queue is
asked to remove the CLAIM, and its answer decides: removed or not queued, carried out at once with its own target;
held back by a contention, it waits in the entry, joined to one already waiting there (log 16). A CLAIM whose end is
still to be taken lets that end decide (log 28). A withdrawal that finds the entry no longer TENTATIVE has no
effect. -/
def State.withdraw (slot : Slot) (w : Withdrawal) (s : State) : State :=
  match s.entry? slot with
  | none => s
  | some e =>
    match e.state with
    | .tentative c pendingYield asked =>
      let (answer, s1) := s.requestRemoval (.claim slot c)
      if w.target = .removal then s1.withdrawNow slot c .removal
      else
        match s1.answerFor slot answer with
        | .removed => s1.withdrawNow slot c w.target
        | .notQueued => s1.withdrawNow slot c w.target
        | .inTransmission => s1.setEntry slot (.tentative c (laterReason w.reason pendingYield) asked)
        | .deferred => s1.setEntry slot (.tentative c pendingYield (some (mergeWithdrawal w asked)))
    | .unclaimed => s
    | .mine _ => s
    | .other _ => s
    | .yielded => s
    | .released => s

/-- The queue's held answer "in transmission" reaches a waiting withdrawal (R30, R74). -/
def State.answerInTransmission (slot : Slot) (s : State) : State :=
  match s.entry? slot with
  | none => s
  | some e =>
    match e.state with
    | .tentative c pendingYield (some w) => s.setEntry slot (.tentative c (laterReason w.reason pendingYield) none)
    | .tentative _ _ none => s
    | .unclaimed => s
    | .mine _ => s
    | .other _ => s
    | .yielded => s
    | .released => s

/-- The queue's held answer "removed" or "not queued" reaches a waiting withdrawal, which is carried out at once
(R30, R74). -/
def State.answerRemoved (slot : Slot) (s : State) : State :=
  match s.entry? slot with
  | none => s
  | some e =>
    match e.state with
    | .tentative c _ (some w) => s.withdrawNow slot c w.target
    | .tentative _ _ none => s
    | .unclaimed => s
    | .mine _ => s
    | .other _ => s
    | .yielded => s
    | .released => s

/-- Yields a MINE entry that stays RELEASED: MISS to its cradle, a YIELD asked for (R75). -/
def State.yieldMine (slot : Slot) (c : CradleId) (reason : YieldReason) (s : State) : State :=
  (s.setEntry slot .released).handAll [.miss c, .yieldRequest slot reason]

/-- Yields a MINE entry that is removed: MISS to its cradle, a YIELD asked for (R75). -/
def State.yieldRemoved (slot : Slot) (c : CradleId) (reason : YieldReason) (s : State) : State :=
  (s.removeEntry slot).handAll [.miss c, .yieldRequest slot reason]

/-! ### Heard frames -/

/-- Whether a class is in the service list. -/
def State.serves (s : State) (cls : Nat) : Bool := (s.service? cls).isSome

/-- A heard STEM, the checks in the order of R69. -/
def State.judgeStem (slot : Slot) (cls lotNo : Nat) (s : State) : State :=
  if ¬ s.dropActive then s
  else if s.tracker.state ≠ .tracking then s
  else if s.serves cls = false then s
  else if s.rem slot = 0 ∨ s.cfg.depth < s.rem slot then s.bump .lateStems
  else if (s.entry? slot).isSome = true then s.bump .duplicateStems
  else (s.joinEntry ⟨slot, cls, lotNo, .unclaimed⟩).hand .passRequest

/-- A heard CLAIM of another station (R70). -/
def State.peerClaim (slot : Slot) (sender : Nat) (st : EntryState) (s : State) : State :=
  match st with
  | .unclaimed => s.setEntry slot (.other sender)
  | .yielded => s.setEntry slot (.other sender)
  | .tentative _ _ _ => s.withdraw slot ⟨.other sender, none⟩
  | .mine _ => s.bump .conflicts
  | .other _ => s.bump .conflicts
  | .released => s

/-- This station's own CLAIM heard (R70): a TENTATIVE entry becomes MINE with WIN, and a pending yield
then yields it at once (R74). -/
def State.ownClaim (slot : Slot) (st : EntryState) (s : State) : State :=
  match st with
  | .tentative c none _ => ((s.setEntry slot (.mine c)).hand (.win c)).bump .claimsWon
  | .tentative c (some reason) _ =>
    (((s.setEntry slot (.mine c)).hand (.win c)).bump .claimsWon).yieldMine slot c reason
  | .unclaimed => s.bump .conflicts
  | .yielded => s.bump .conflicts
  | .mine _ => s.bump .conflicts
  | .other _ => s.bump .conflicts
  | .released => s.bump .conflicts

/-- A heard CLAIM (R70). -/
def State.judgeClaim (slot : Slot) (sender : Nat) (s : State) : State :=
  match s.entry? slot with
  | none => s
  | some e => if sender = s.stationId then s.ownClaim slot e.state else s.peerClaim slot sender e.state

/-- The effect of a heard YIELD on its entry (R71). -/
def State.yieldEntry (slot : Slot) (sender : Nat) (s : State) : State :=
  match s.entry? slot with
  | none => s
  | some e =>
    match e.state with
    | .other claimant =>
      if claimant = sender then (s.setEntry slot .yielded).hand .passRequest else s.bump .conflicts
    | .unclaimed => s
    | .tentative _ _ _ => s
    | .mine _ => s
    | .yielded => s
    | .released => s

/-- A heard YIELD: counted if it comes from another station (R71). -/
def State.judgeYield (slot : Slot) (sender : Nat) (s : State) : State :=
  (if sender = s.stationId then s else s.bump .yieldsHeard).yieldEntry slot sender

/-! ### The lot-close list -/

/-- A record joins at its place (R80). R80 names no place among records of one last slot; the newer goes after the
older, and so fires after it, by the model's choice (log 34). In a list that a slip has put out of order and that has not
yet been placed anew it joins before the first record farther by the distances of now: the model's choice (log 38). -/
def State.joinLotClose (r : LotClose) (s : State) : State :=
  { s with table := { s.table with
    lotCloses := insertByKey (fun x => s.rem x.lastSlot) r s.table.lotCloses } }

/-- The element of the least key, the first of several (R81). -/
def leastBy {α : Type} (key : α → Nat) : List α → Option α
  | [] => none
  | x :: rest =>
    match leastBy key rest with
    | none => some x
    | some y => if key y < key x then some y else some x

/-- The record nearest the station, by the distances of this instant, fires to make room (R68, R81); of several for
one last slot the oldest, by the model's choice (log 34). -/
def State.fireNearest (s : State) : State :=
  match leastBy (fun r => s.rem r.lastSlot) s.table.lotCloses with
  | none => s
  | some r => ({ s with table := { s.table with lotCloses := s.table.lotCloses.erase r } }).hand (.closeLot r.lot)

/-- A heard LOT, the cases in the order of R81. -/
def State.judgeLot (lotNo : Nat) (lastSlot : Slot) (s : State) : State :=
  if s.tracker.state = .unsynced then s.hand (.closeLot lotNo)
  else
    let s1 := { s with table := { s.table with
      lotCloses := s.table.lotCloses.filter (fun r => r.lot != lotNo) } }
    if s1.rem lastSlot = 0 ∨ s1.cfg.depth < s1.rem lastSlot then s1.hand (.closeLot lotNo)
    else if s1.table.lotCloses.length < lotCloseCapacity then s1.joinLotClose ⟨lotNo, lastSlot⟩
    else s1.fireNearest.joinLotClose ⟨lotNo, lastSlot⟩

/-- The records a test picks fire, in the list's order (R82). -/
def State.fireLots (fires : LotClose → Bool) (s : State) : State :=
  ({ s with table := { s.table with lotCloses := s.table.lotCloses.filter (fun r => !fires r) } }).handAll
    ((s.table.lotCloses.filter fires).map (fun (r : LotClose) => Instr.closeLot r.lot))

/-! ### Carrier arrivals -/

/-- The distance of a slot on the numbering an arrival carries (R68). -/
def State.remAt (s : State) (slotHere : Slot) (slot : Slot) : Nat :=
  forwardDistance s.cfg.chainLength slot slotHere

/-- The pass event of one entry (R77). -/
def State.passEvent (period : Ticks) (e : FlightEntry) (s : State) : State :=
  match e.state with
  | .mine c => (s.removeEntry e.slot).hand (.releaseHandover e.slot c period)
  | .tentative _ _ _ => s.withdraw e.slot ⟨.removal, none⟩
  | .unclaimed => s.removeEntry e.slot
  | .other _ => s.removeEntry e.slot
  | .yielded => s.removeEntry e.slot
  | .released => s.removeEntry e.slot

/-- The removal of one entry at a slip (R79 step 1). -/
def State.slipRemoval (e : FlightEntry) (s : State) : State :=
  match e.state with
  | .mine c => s.yieldRemoved e.slot c .void
  | .tentative _ _ _ => s.withdraw e.slot ⟨.removal, none⟩
  | .unclaimed => s.removeEntry e.slot
  | .other _ => s.removeEntry e.slot
  | .yielded => s.removeEntry e.slot
  | .released => s.removeEntry e.slot

/-- The claim deadline: TENTATIVE entries from distance 1 to Hc are withdrawn to UNCLAIMED (R77), in table order by the
model's choice (log 39). -/
def State.claimDeadlines (slotHere : Slot) (s : State) : State :=
  (s.table.entries.filter (fun e => decide (1 ≤ s.remAt slotHere e.slot
      ∧ s.remAt slotHere e.slot ≤ s.cfg.claimHorizon))).foldl
    (fun t e => t.withdraw e.slot ⟨.unclaimed, none⟩) s

/-- An arrival not marked as a slip: pass event, claim deadline, lot closes (R77, R82). -/
def State.ordinaryArrival (a : Arrival) (s : State) : State :=
  let passing := s.table.entries.filter (fun e => s.remAt a.slotHere e.slot == 0)
  let s1 := passing.foldl (fun t e => t.passEvent a.period e) s
  (s1.claimDeadlines a.slotHere).fireLots (fun r => s.remAt a.slotHere r.lastSlot == 0)

/-- Entries and lot-close records take their places by their new distances (R79, R82; log 20). -/
def State.replace (slotHere : Slot) (s : State) : State :=
  { s with table := {
    entries := sortByKey (fun e => s.remAt slotHere e.slot) s.table.entries
    lotCloses := sortByKey (fun r => s.remAt slotHere r.lastSlot) s.table.lotCloses } }

/-- An arrival marked as a slip: removals, claim deadline, lot closes (R79, R82). -/
def State.slipArrival (a : Arrival) (s : State) : State :=
  let gone := fun slot => s.remAt a.slotHere slot == 0 || decide (s.cfg.depth < s.remAt a.slotHere slot)
  let s1 := (s.table.entries.filter (fun e => gone e.slot)).foldl (fun t e => t.slipRemoval e) s
  ((s1.claimDeadlines a.slotHere).replace a.slotHere).fireLots (fun r => gone r.lastSlot)

/-! ### Notices -/

/-- One entry at a hold assertion or a clear notice: a TENTATIVE claim is withdrawn with target
UNCLAIMED and the reason, a MINE stem is yielded with it (R104, R129). -/
def State.giveBack (reason : YieldReason) (e : FlightEntry) (s : State) : State :=
  match e.state with
  | .tentative _ _ _ => s.withdraw e.slot ⟨.unclaimed, some reason⟩
  | .mine c => s.yieldMine e.slot c reason
  | .unclaimed => s
  | .other _ => s
  | .yielded => s
  | .released => s

/-- The cradle an entry names. -/
def entryCradle : EntryState → Option CradleId
  | .tentative c _ _ => some c
  | .mine c => some c
  | .unclaimed => none
  | .other _ => none
  | .yielded => none
  | .released => none

/-- Gives back every claim and owned stem, nearest first (R104). -/
def State.giveBackAll (reason : YieldReason) (s : State) : State :=
  s.table.entries.foldl (fun t e => t.giveBack reason e) s

/-- Gives back every claim and owned stem of a cradle (R129), in table order by the model's choice (log 39). -/
def State.giveBackCradle (c : CradleId) (s : State) : State :=
  (s.table.entries.filter (fun e => entryCradle e.state == some c)).foldl (fun t e => t.giveBack .void e) s

/-- The operation an entry removed at the entry to HALTED leaves for its cradle (R86). -/
def haltOperation : EntryState → List Instr
  | .tentative c _ _ => [.returnCount c]
  | .mine c => [.miss c]
  | .unclaimed => []
  | .other _ => []
  | .yielded => []
  | .released => []

/-- The Flight Table's entry to HALTED (R86), the entries in table order by the model's choice (log 39). -/
def State.haltFlightTable (s : State) : State :=
  ({ s with table := FlightTable.reset }).handAll (s.table.entries.flatMap (fun (e : FlightEntry) => haltOperation e.state))

/-- A CLAIM for a slot is queued, being sent, or its end is still to be taken: an outstanding outcome is then
that of an older frame for the slot (R76, R101; log 28). -/
def State.claimUnderWay (s : State) (slot : Slot) : Bool :=
  claimQueued s.bus.queue slot || s.bus.sending.any (fun f => isClaimFor slot f.body) || s.claimEnding slot

/-- A CLAIM outcome on a TENTATIVE entry (R76). -/
def State.takeClaimOutcome (slot : Slot) (outcome : FrameOutcome) (s : State) : State :=
  match s.entry? slot with
  | none => s
  | some e =>
    match e.state with
    | .tentative c _ _ =>
      match outcome with
      | .sent => s
      | .spoiled => s.withdrawNow slot c .released
      | .expired => s.withdrawNow slot c .unclaimed
      | .evicted => s.withdrawNow slot c .unclaimed
      | .refused => s.withdrawNow slot c .unclaimed
      | .removed => s.withdrawNow slot c .unclaimed
      | .dropped => s
      | .discarded => s
    | .unclaimed => s
    | .mine _ => s
    | .other _ => s
    | .yielded => s
    | .released => s

/-! ### Meanings -/

/-- FLIGHT_TABLE_STEM (R69). -/
def execFlightTableStem (slot : Slot) (cls lotNo : Nat) (s : State) : Result :=
  .next ((s.taken (.flightTableStem slot cls lotNo)).judgeStem slot cls lotNo)

/-- FLIGHT_TABLE_CLAIM: the cradle named is not used (R70). -/
def execFlightTableClaim (slot : Slot) (cradle : CradleId) (sender : Nat) (s : State) : Result :=
  let s := s.taken (.flightTableClaim slot cradle sender)
  .next (if s.dropActive then s.judgeClaim slot sender else s)

/-- FLIGHT_TABLE_YIELD: the reason is not used (R71). -/
def execFlightTableYield (slot : Slot) (reason : YieldReason) (sender : Nat) (s : State) : Result :=
  let s := s.taken (.flightTableYield slot reason sender)
  .next (if s.dropActive then s.judgeYield slot sender else s)

/-- FLIGHT_TABLE_LOT (R81). -/
def execFlightTableLot (lotNo : Nat) (lastSlot : Slot) (s : State) : Result :=
  let s := s.taken (.flightTableLot lotNo lastSlot)
  .next (if s.dropActive then s.judgeLot lotNo lastSlot else s)

/-- FLIGHT_TABLE_CARRIER_ARRIVAL (R77, R79). -/
def execFlightTableCarrierArrival (arrival : Arrival) (s : State) : Result :=
  let s := s.taken (.flightTableCarrierArrival arrival)
  .next (if s.dropActive then
    (if arrival.slip = true then s.slipArrival arrival else s.ordinaryArrival arrival)
  else s)

/-- CLEAR_NOTICE_FLIGHT_TABLE (R129). The cradle stays SEALED with pending VOID while a claim it was promised is
outstanding, so a notice that finds it otherwise comes too late to withdraw anything, and a claim made into the
cradle since then stands (R131; log 29). -/
def execClearNoticeFlightTable (c : CradleId) (s : State) : Result :=
  let s := s.taken (.clearNoticeFlightTable c)
  .next (if s.dropActive ∧ s.voidPending c = true then s.giveBackCradle c else s)

/-- CLAIM_OUTCOME: passed through the Claim Engine to the Flight Table (R76, R102). An outstanding outcome taken
while a later CLAIM for the slot is under way is an older frame's and has no effect (log 28). -/
def execClaimOutcome (slot : Slot) (outcome : FrameOutcome) (s : State) : Result :=
  let stood := s.handed.contains (.claimOutcome slot outcome)
  let s := s.taken (.claimOutcome slot outcome)
  .next (if s.dropActive ∧ (stood && s.claimUnderWay slot) = false then s.takeClaimOutcome slot outcome else s)

end Sys2Proof.Machine
end

