-- ==== Sys2Proof/Machine/ClaimEngine.lean ====
section
/-! DEFINITION. The Claim Engine (chapter 5): the candidacy pass, the choice of a cradle, the flap gap,
the claim key, hold, and the yields. -/

namespace Sys2Proof.Machine

/-! ### Judging an entry -/

/-- The condition of a secondary entry: a distance of Hc + Sd or less (R88, R94). -/
def inServiceWindow (cfg : StationConfig) (e : ServiceEntry) (distance : Nat) : Bool :=
  !e.secondary || decide (distance ≤ cfg.claimHorizon + cfg.secondaryDepth)

/-- UNCLAIMED and YIELDED entries may be claimed (R93). -/
def claimable : EntryState → Bool
  | .unclaimed => true
  | .yielded => true
  | .tentative _ _ _ => false
  | .mine _ => false
  | .other _ => false
  | .released => false

/-- The conditions of a candidate, in the order of R93. -/
def State.isCandidate (s : State) (e : FlightEntry) (service : ServiceEntry) : Bool :=
  decide (s.loader.mode = .active) && !s.engine.held && !s.flag .txFault
    && decide (s.tracker.state = .tracking) && claimable e.state
    && decide (s.cfg.claimHorizon < s.rem e.slot ∧ s.rem e.slot ≤ s.cfg.depth)
    && inServiceWindow s.cfg service (s.rem e.slot)

/-- The queue has room for a claim (R95). -/
def State.queueHasRoom (s : State) : Bool := decide (s.bus.queue.length < queueCapacity)

/-- Whether a cradle is OPEN, bound to the class and lot, with room (R96). -/
def State.takesStem (s : State) (size : Nat) (e : FlightEntry) (c : CradleId) : Bool :=
  decide ((s.cradle c).state = .opened ∧ (s.cradle c).binding = some ⟨e.cls, e.lot⟩
    ∧ (s.cradle c).sum < size)

/-- The cradle a candidate would go to (R96). -/
def State.chooseCradle (s : State) (size : Nat) (e : FlightEntry) : Option CradleId :=
  if s.takesStem size e .a = true ∧ s.takesStem size e .b = true then
    (if (s.cradle .a).sum < (s.cradle .b).sum then some .b else some .a)
  else if s.takesStem size e .a = true then some .a
  else if s.takesStem size e .b = true then some .b
  else if (s.cradle .a).state = .empty then some .a
  else if (s.cradle .b).state = .empty then some .b
  else none

/-- Whether two slots lie within Gf carriers of each other (R98). -/
def withinGap (cfg : StationConfig) (x y : Slot) : Bool :=
  decide (min (forwardDistance cfg.chainLength x y) (forwardDistance cfg.chainLength y x) ≤ cfg.flapGap)

/-- The slot of a hand-over for a cradle that the Release Unit has not yet taken. -/
def handoverFor (c : CradleId) : Instr → Option Slot
  | .releaseHandover slot d _ => if d = c then some slot else none
  | _ => none

/-- Slots of this station's release records for a cradle: waiting in DELAY, in the open window, or handed
over and not yet taken (R91, R98; log 21). -/
def State.recordSlots (s : State) (c : CradleId) : List Slot :=
  ((s.release.delayed.toList ++ (s.release.window.bind (fun w => w.record)).toList).filter
      (fun r => r.cradle == c)).map (fun r => r.slot)
    ++ s.handed.filterMap (handoverFor c)

/-- Slots of this station's TENTATIVE and MINE entries for a cradle (R98). -/
def State.claimSlots (s : State) (c : CradleId) : List Slot :=
  (s.table.entries.filter (fun e => entryCradle e.state == some c)).map (fun e => e.slot)

/-- The flap gap allows a claim into a cradle; with Gf = 0 it is off (R98). -/
def State.gapAllows (s : State) (slot : Slot) (c : CradleId) : Bool :=
  decide (s.cfg.flapGap = 0)
    || !((s.claimSlots (otherCradle c) ++ s.recordSlots (otherCradle c)).any (withinGap s.cfg slot))

/-! ### The claim key -/

/-- The band of a claim (R99). -/
def claimBand (service : ServiceEntry) (n : Nat) : Nat :=
  if service.secondary = true then 0
  else if n + 1 = service.bunchSize then 3
  else if 1 ≤ n then 2
  else 1

/-- The fill of a claim (R100). -/
def claimFill (service : ServiceEntry) (n : Nat) : Nat := 31 * n / service.bunchSize

/-- The contention value of a claim (R100). -/
def claimValue (service : ServiceEntry) (n id : Nat) : Nat :=
  contentionValue 3 (claimBand service n * 32 + claimFill service n) id

/-- n: the sum of the chosen cradle just before the claim, 0 when it is EMPTY (R99). -/
def State.claimCount (s : State) (c : CradleId) : Nat :=
  if (s.cradle c).state = .empty then 0 else (s.cradle c).sum

/-! ### Claiming -/

/-- Claims a candidate into a cradle: RESERVE, TENTATIVE, a CLAIM offered; a refusal withdraws it at
once (R101). -/
def State.claim (e : FlightEntry) (service : ServiceEntry) (c : CradleId) (s : State) : State :=
  let frame : Frame := ⟨claimValue service (s.claimCount c) s.stationId, .claim e.slot c⟩
  let s1 := (s.reserve c e.cls e.lot).setEntry e.slot (.tentative c none none)
  match s1.offer frame with
  | (.joined, s2) => s2
  | (.dropped, s2) => s2.withdrawNow e.slot c .unclaimed
  | (.refused, s2) => s2.withdrawNow e.slot c .unclaimed

/-- Judges one entry of a pass, the steps in the order of R92. -/
def State.judgeEntry (slot : Slot) (s : State) : State :=
  match s.entry? slot with
  | none => s
  | some e =>
    match s.service? e.cls with
    | none => s
    | some service =>
      if s.isCandidate e service = true ∧ s.queueHasRoom = true then
        match s.chooseCradle service.bunchSize e with
        | none => s
        | some c => if s.gapAllows e.slot c = true then s.claim e service c else s
      else s

/-- A candidacy pass: the table walked nearest first, each entry judged on what the ones before it have
left (R92). -/
def State.runPass (s : State) : State :=
  (s.table.entries.map (fun e => e.slot)).foldl (fun t slot => t.judgeEntry slot) s

/-! ### Hold -/

/-- The hold filter follows a change of level (R89). A revert named at the very tick at which the change completes
2,000 ticks is taken before the hold assertion or release that has fallen due, as every waiting command is, and
discards the change, by the model's choice (log 30). -/
def holdFilterAfter (f : HoldFilter) (held level : Bool) : HoldFilter :=
  match f with
  | .stopped => .stopped
  | .steady => if level = held then .steady else .changing 0
  | .changing n => if level = held then .steady else .changing n

/-- Held and the filter after a change of level has lasted 20 ms (R89). -/
def State.takeHold (held : Bool) (s : State) : State :=
  { s with
    pins := { s.pins with hold := held }
    engine := { held := held, holdFilter := .steady } }

/-- The hold notices to the Cradle Manager, the Release Unit and the Tie Port (R89). -/
def holdNotices (held : Bool) : List Instr :=
  [.holdNoticeCradle held, .holdNoticeReleaseUnit held, .holdNoticeTiePort held]

/-! ### Meanings -/

/-- CLAIM_ENGINE_CARRIER_ARRIVAL: a carrier notice to the queue, then in ACTIVE a pass request (R91). -/
def execClaimEngineCarrierArrival (arrival : Arrival) (s : State) : Result :=
  let s := s.taken (.claimEngineCarrierArrival arrival)
  .next (if s.dropActive then s.handAll [.carrierNotice arrival.slotHere, .passRequest]
    else if s.loader.role = some .drop ∧ s.loader.mode = .announcing then
      s.hand (.carrierNotice arrival.slotHere)
    else s)

/-- PASS_REQUEST: runs a pass in ACTIVE with held clear, and is discarded otherwise (R90). -/
def execPassRequest (s : State) : Result :=
  let s := s.taken .passRequest
  .next (if s.dropActive ∧ s.engine.held = false then s.runPass else s)

/-- HOLD_LEVEL_CHANGE: the input's level, and in drop role the level filter (R53, R89). -/
def execHoldLevelChange (asserted : Bool) (s : State) : Result :=
  let s1 := { s with pins := { s.pins with hold := asserted } }
  .next (if s.dropLoaded then
    { s1 with engine := { s1.engine with
      holdFilter := holdFilterAfter s1.engine.holdFilter s1.engine.held asserted } }
  else s1)

/-- HOLD_ASSERTION: held is set; in ACTIVE hold notices go out, claims are withdrawn and owned stems
yielded (R89, R104). The notices are handed over before the give-back's RETURN and MISS, by the model's choice (log 40). -/
def execHoldAssertion (s : State) : Result :=
  .next (if s.dropLoaded ∧ s.engine.holdFilter ≠ .stopped ∧ s.engine.held = false then
    let s1 := s.takeHold true
    if s.loader.mode = .active then (s1.handAll (holdNotices true)).giveBackAll .hold else s1
  else s)

/-- HOLD_RELEASE: held clears; in ACTIVE hold notices go out and a pass is requested (R89, R107). The notices are handed
over before the pass request, by the model's choice (log 40). -/
def execHoldRelease (s : State) : Result :=
  .next (if s.dropLoaded ∧ s.engine.holdFilter ≠ .stopped ∧ s.engine.held = true then
    let s1 := s.takeHold false
    if s.loader.mode = .active then (s1.handAll (holdNotices false)).hand .passRequest else s1
  else s)

/-- YIELD_REQUEST: one YIELD offered, whatever held and TX_FAULT say (R108, R110). -/
def execYieldRequest (slot : Slot) (reason : YieldReason) (s : State) : Result :=
  let s := s.taken (.yieldRequest slot reason)
  .next (if s.dropLoaded then s.offered (plainFrame s.stationId (.yield slot reason)) else s)

/-- YIELD_OUTCOME: SENT is counted, nothing else acts (R109). One handed over before the halt and taken in HALTED is
counted too, by the model's choice (R111; log 31). -/
def execYieldOutcome (slot : Slot) (reason : YieldReason) (outcome : FrameOutcome) (s : State) : Result :=
  let s := s.taken (.yieldOutcome slot reason outcome)
  .next (if s.dropLoaded ∧ outcome = .sent then s.bump .yieldsSent else s)

end Sys2Proof.Machine
end

