-- ==== Sys2Proof/Machine/GaugeUnit.lean ====
section
/-! DEFINITION. The Gauge Unit (chapter 3): the scan port, the measure window and its evaluation, issue
of stems, lots, the issue watch. -/

namespace Sys2Proof.Machine

/-! ### Evaluating a window (3.4) -/

/-- What a window's results come to. -/
inductive Evaluation where
  /-- an empty carrier (R47) -/
  | empty
  /-- a stem with class, length and reason (R48 to R52) -/
  | stem (cls : Nat) (length : Nat) (reason : RejectReason)
  deriving DecidableEq, Repr

/-- The beam index of a valid scan (R40). -/
def validBeam : ScanResult → Option Nat
  | .stem beam => some beam
  | .clear => none
  | .blocked => none
  | .lost => none

/-- The beam indices of the valid scans in ascending order (R49). -/
def sortedBeams (results : List ScanResult) : List Nat := sortByKey id (results.filterMap validBeam)

/-- The lower median: the element at index floor((v − 1) / 2) (R49). -/
def lowerMedian (beams : List Nat) : Nat := beams.getD ((beams.length - 1) / 2) 0

/-- The spread: the last element less the first (R49). -/
def spread (beams : List Nat) : Nat := beams.getLastD 0 - beams.headD 0

/-- The length of a stem: rounded half up and clamped (R50). -/
def stemLength (cfg : StationConfig) (beam : Nat) : Nat :=
  min ((cfg.gripOffset + (beam + 1) * cfg.beamPitch + 5) / 10) lengthLimit

/-- The number of the class a length falls in: how many of the ascending bounds it reaches, 0 for SHORT
(R52). -/
def classOf (bounds : List Nat) (length : Nat) : Nat := bounds.countP (fun b => decide (b ≤ length))

/-- The evaluation of a window's results, the first rule that applies (R47 to R52). -/
def evaluate (cfg : StationConfig) (results : List ScanResult) : Evaluation :=
  let beams := sortedBeams results
  let length := stemLength cfg (lowerMedian beams)
  if results.all (fun r => r == .clear) = true then .empty
  else if beams.length < cfg.validMinimum then .stem 0 0 .unmeasured
  else if cfg.spreadLimit < spread beams then .stem 0 length .unsteady
  else if classOf cfg.classBounds length = 0 then .stem 0 length .short
  else .stem (classOf cfg.classBounds length) length .none

/-! ### Issuing stems and lots (3.5, 3.6) -/

/-- The counter of a reject reason (R53). -/
def rejectCounter : RejectReason → Option CounterName
  | .none => none
  | .short => some .shortRejects
  | .unmeasured => some .unmeasuredRejects
  | .unsteady => some .unsteadyRejects

/-- Counts a counter, if one is named. -/
def State.bumpSome (n : Option CounterName) (s : State) : State :=
  match n with
  | none => s
  | some name => s.bump name

/-- A stem is issued or held by the level of HOLD (R53). -/
def State.issueStem (slot : Slot) (cls length : Nat) (reason : RejectReason) (s : State) : State :=
  let s1 := { s with gauge := { s.gauge with lastStemSlot := some slot } }
  if s.pins.hold = true then s1.bump .heldStems
  else (s1.bumpSome (rejectCounter reason)).offered
    (plainFrame s.stationId (.stem slot cls length s.gauge.lotNumber reason))

/-- The outcome of a closed window (R47, R53). -/
def State.issue (slot : Slot) (e : Evaluation) (s : State) : State :=
  match e with
  | .empty => s.bump .empties
  | .stem cls length reason => s.issueStem slot cls length reason

/-- The last slot a LOT frame names: the last stem slot, or the current slot here; none in UNSYNCED with no
stem (R57). -/
def State.lotLastSlot (s : State) : Option Slot :=
  match s.gauge.lastStemSlot with
  | some slot => some slot
  | none => if s.tracker.state = .unsynced then none else some s.here

/-- The lot number advances and the last stem slot becomes none (R57). -/
def State.advanceLot (s : State) : State :=
  { s with gauge := { s.gauge with
    pendingPress := false, lastStemSlot := none, lotNumber := (s.gauge.lotNumber + 1) % 16 } }

/-- A LOT press is taken (R57). -/
def State.takePress (s : State) : State :=
  match s.lotLastSlot with
  | none => s.advanceLot
  | some slot => (s.offered (plainFrame s.stationId (.lot s.gauge.lotNumber slot))).advanceLot

/-- The pending press, if set, is taken (R44, R45). So too where the window closes between a halt report and the
Gauge Unit's own halt notice: the press was taken in ACTIVE, the LOT is refused and the lot number advances, by
the model's choice (log 31). -/
def State.takePendingPress (s : State) : State :=
  if s.gauge.pendingPress = true then s.takePress else s

/-! ### Scan results (R40, R41) -/

/-- A scan result is counted: the scans-lost counter and the lost run (R39 to R41). -/
def State.noteResult (r : ScanResult) (s : State) : State :=
  if r = .lost then
    let run := min (s.gauge.lostRun + 1) lostLimit
    let s1 := ({ s with gauge := { s.gauge with lostRun := run } }).bump .scansLost
    if run = lostLimit then s1.raise .scanFault else s1
  else { s with gauge := { s.gauge with lostRun := 0 } }

/-- The window record as it stands is discarded. -/
def State.discardWindow (s : State) : State := { s with gauge := { s.gauge with window := none } }

/-- A position as it counts at the evaluation: an empty one is LOST (R45). -/
def filledResult (r : Option ScanResult) : ScanResult := r.getD .lost

/-- A window closes: evaluated, issued, discarded, then a pending press taken (R44, R45). -/
def State.closeMeasure (w : MeasureWindow) (s : State) : State :=
  ((s.issue w.slot (evaluate s.cfg (w.results.map filledResult))).discardWindow).takePendingPress

/-- The window closes normally once its last position is filled (R44). -/
def State.closeIfFull (s : State) : State :=
  match s.gauge.window with
  | none => s
  | some w => if w.results.all Option.isSome = true then s.closeMeasure w else s

/-- A result is counted, written to its position, and the window closed if that was its last (R38, R41,
R44). -/
def State.writeResult (position : Nat) (r : ScanResult) (s : State) : State :=
  let s1 := s.noteResult r
  match s1.gauge.window with
  | none => s1
  | some w =>
    ({ s1 with gauge := { s1.gauge with
      window := some { w with results := w.results.set position (some r) } } }).closeIfFull

/-- The scan port takes a state. -/
def State.setPort (p : ScanPort) (s : State) : State := { s with gauge := { s.gauge with port := p } }

/-- The next scan index of the open window becomes i + 1 (R43). -/
def State.advanceScan (w : MeasureWindow) (s : State) : State :=
  { s with gauge := { s.gauge with window := some { w with nextScan := w.nextScan + 1 } } }

/-- A scan falls due: it begins if the port is IDLE, and is skipped as LOST otherwise (R38, R43). -/
def State.takeScan (scanReady : Bool) (w : MeasureWindow) (s : State) : State :=
  match s.gauge.port with
  | .idle => (s.advanceScan w).setPort (.awaiting 0 scanReady (some w.nextScan))
  | .awaiting _ _ _ => (s.advanceScan w).writeResult w.nextScan .lost

/-- A scan ends with a result; the scan of a window already cut is discarded (R38, R39, R45). -/
def State.endScan (position : Option Nat) (r : ScanResult) (s : State) : State :=
  match position with
  | none => s.setPort .idle
  | some i => (s.setPort .idle).writeResult i r

/-! ### The issue watch (3.7) -/

/-- The class the status record shows for a run-out: 15 if unknown (R62). -/
def unservedClass (cls : Option Nat) : Nat := cls.getD 15

/-- A stem runs out: counted, its class kept, RUNOUT set (R62). -/
def State.runOut (cls : Option Nat) (s : State) : State :=
  (({ s with gauge := { s.gauge with lastUnserved := some (unservedClass cls) } }).bump .unserved).raise .runout

/-- The distance a slot has passed the gauge, with an arrival's slot here (R59). -/
def passedAt (cfg : StationConfig) (slotHere slot : Slot) : Nat :=
  forwardDistance cfg.chainLength slotHere slot

/-- An entry's horizon worked out from the numbering (R59). -/
def refreshEntry (cfg : StationConfig) (slotHere : Slot) (e : WatchEntry) : WatchEntry :=
  { e with horizon := cfg.runOutHorizon - passedAt cfg slotHere e.slot }

/-- The watch at a carrier arrival: horizons worked out anew, entries at 0 run out, oldest first (R59,
R62, R64). -/
def State.workWatch (slotHere : Slot) (s : State) : State :=
  let fresh := s.gauge.watch.map (refreshEntry s.cfg slotHere)
  (fresh.filter (fun e => e.horizon == 0)).foldl (fun t e => t.runOut e.cls)
    { s with gauge := { s.gauge with watch := fresh.filter (fun e => e.horizon != 0) } }

/-- Whether the watch holds an entry for a slot. -/
def State.watched (s : State) (slot : Slot) : Bool := s.gauge.watch.any (fun e => e.slot == slot)

/-- The entry for a slot leaves the watch (R60, R61). -/
def State.unwatch (slot : Slot) (s : State) : State :=
  { s with gauge := { s.gauge with watch := s.gauge.watch.filter (fun e => e.slot != slot) } }

/-- An entry joins at the tail (R60, R63). -/
def State.joinWatch (slot : Slot) (cls : Option Nat) (s : State) : State :=
  { s with gauge := { s.gauge with
    watch := s.gauge.watch ++ [⟨slot, cls, s.cfg.runOutHorizon - s.passed slot⟩] } }

/-- The watch takes the station's own STEM with no entry for its slot (R60). -/
def State.watchFresh (slot : Slot) (cls : Nat) (s : State) : State :=
  if watchCapacity ≤ s.gauge.watch.length then s.bump .watchOverflow
  else if s.passed slot < s.cfg.runOutHorizon then s.joinWatch slot (some cls)
  else s.runOut (some cls)

/-- The watch takes a heard YIELD (R63). -/
def State.watchYield (slot : Slot) (s : State) : State :=
  if s.watched slot = true then s
  else if s.tracker.state = .unsynced then s
  else if s.cfg.runOutHorizon ≤ s.passed slot then s
  else if watchCapacity ≤ s.gauge.watch.length then s.bump .watchOverflow
  else s.joinWatch slot none

/-! ### Carrier arrivals -/

/-- Each empty position of a cut window counts as LOST (R45 step 1). -/
def State.noteCut (results : List (Option ScanResult)) (s : State) : State :=
  results.foldl (fun t r => if r.isNone = true then t.noteResult .lost else t) s

/-- The outstanding scan, if any, belongs to no window any more (R45 step 2). -/
def orphanScan : ScanPort → ScanPort
  | .idle => .idle
  | .awaiting timer clocking _ => .awaiting timer clocking none

/-- A window still open is cut short (R45 steps 1 to 4). -/
def State.cutWindow (s : State) : State :=
  match s.gauge.window with
  | none => s
  | some w => (((s.noteCut w.results).setPort (orphanScan s.gauge.port)).closeMeasure w)

/-- A window opens for an arrival (R42). -/
def State.openMeasure (a : Arrival) (s : State) : State :=
  { s with gauge := { s.gauge with
    window := some ⟨a.slotHere, a.period, 0, List.replicate s.cfg.scanCount none, 0⟩ } }

/-- The Gauge Unit's entry to HALTED (R46, R65). -/
def State.haltGaugeUnit (s : State) : State :=
  { s with gauge := { s.gauge with port := .idle, window := none, pendingPress := false, watch := [] } }

/-! ### Meanings -/

/-- GAUGE_CARRIER_ARRIVAL: in ACTIVE the cut, the watch and the new window; a carrier notice in ANNOUNCING
and ACTIVE (R45, R55, R62, R65). -/
def execGaugeCarrierArrival (arrival : Arrival) (s : State) : Result :=
  let s := s.taken (.gaugeCarrierArrival arrival)
  .next (if s.gaugeActive then
    (((s.cutWindow).workWatch arrival.slotHere).openMeasure arrival).hand (.carrierNotice arrival.slotHere)
  else if s.loader.role = some .gauge ∧ s.loader.mode = .announcing then
    s.hand (.carrierNotice arrival.slotHere)
  else s)

/-- SCAN_DUE: the next scan of the open window falls due (R43); in HALTED too until the Gauge Unit takes its own
halt notice, by the model's choice (log 31). -/
def execScanDue (scanReady : Bool) (s : State) : Result :=
  .next (if s.gaugeLoaded then
    match s.gauge.window with
    | none => s
    | some w => if w.nextScan < s.cfg.scanCount then s.takeScan scanReady w else s
  else s)

/-- SRDY_ASSERTED: SREQ is released and clocking begins; at an IDLE port it belongs to no scan (R38, R39). -/
def execSrdyAsserted (s : State) : Result :=
  .next (if s.gaugeLoaded then
    match s.gauge.port with
    | .idle => s
    | .awaiting timer _ position => s.setPort (.awaiting timer true position)
  else s)

/-- SCAN_RECORD_COMPLETE (R38, R40); in HALTED too until the Gauge Unit takes its own halt notice, by the model's
choice (log 31). -/
def execScanRecordComplete (record : Word16) (s : State) : Result :=
  .next (if s.gaugeLoaded then
    match s.gauge.port with
    | .idle => s
    | .awaiting _ _ position => s.endScan position (scanResultOf s.cfg.beams record)
  else s)

/-- RESPONSE_LIMIT_EXPIRY: the scan ends LOST (R39); in HALTED too until the Gauge Unit takes its own halt notice,
by the model's choice (log 31). -/
def execResponseLimitExpiry (s : State) : Result :=
  .next (if s.gaugeLoaded then
    match s.gauge.port with
    | .idle => s
    | .awaiting _ _ position => s.endScan position .lost
  else s)

/-- The LOT filter takes a state. -/
def State.setLotFilter (f : Filter) (s : State) : State :=
  { s with gauge := { s.gauge with lotFilter := f } }

/-- A LOT press in ACTIVE: pending while a window is open, else taken at once (R57). -/
def State.pressLot (s : State) : State :=
  match s.gauge.window with
  | some _ => { s with gauge := { s.gauge with pendingPress := true } }
  | none => s.takePress

/-- LOT_PRESS: one press of each assertion (R56), taken in ACTIVE (R57). -/
def execLotPress (s : State) : Result :=
  .next (if s.gaugeLoaded ∧ s.gauge.lotFilter.admitsEdge = true then
    (if s.loader.mode = .active then (s.setLotFilter .held).pressLot else s.setLotFilter .held)
  else s)

/-- GAUGE_STEM_HEARD: an older entry for the slot leaves uncounted first (R60). -/
def execGaugeStemHeard (slot : Slot) (cls : Nat) (s : State) : Result :=
  let s := s.taken (.gaugeStemHeard slot cls)
  .next (if s.gaugeActive then (s.unwatch slot).watchFresh slot cls else s)

/-- GAUGE_CLAIM_HEARD (R61). -/
def execGaugeClaimHeard (slot : Slot) (s : State) : Result :=
  let s := s.taken (.gaugeClaimHeard slot)
  .next (if s.gaugeActive then s.unwatch slot else s)

/-- GAUGE_YIELD_HEARD (R63). -/
def execGaugeYieldHeard (slot : Slot) (s : State) : Result :=
  let s := s.taken (.gaugeYieldHeard slot)
  .next (if s.gaugeActive then s.watchYield slot else s)

/-- STEM_OUTCOME: SENT is counted, nothing else acts (R54). One handed over before the halt and taken after the
Gauge Unit's entry to HALTED is counted too, by the model's choice (R65; log 31). -/
def execStemOutcome (slot : Slot) (outcome : FrameOutcome) (s : State) : Result :=
  let s := s.taken (.stemOutcome slot outcome)
  .next (if s.gaugeLoaded ∧ outcome = .sent then s.bump .stemsSent else s)

/-- LOT_OUTCOME: a spoiled LOT is offered again in ACTIVE (R58). -/
def execLotOutcome (lotNo : Nat) (lastSlot : Slot) (outcome : FrameOutcome) (s : State) : Result :=
  let s := s.taken (.lotOutcome lotNo lastSlot outcome)
  .next (if s.gaugeActive ∧ outcome = .spoiled then
    s.offered (plainFrame s.stationId (.lot lotNo lastSlot))
  else s)

end Sys2Proof.Machine
end

