-- ==== Sys2Proof/Machine/LineBus.lean ====
section
/-! DEFINITION. The Line Bus Controller (chapter 2): line states, contention, sending and spoiling,
heard frames with their checks and hand-over, the stuck line, removal requests, carrier notices. -/

namespace Sys2Proof.Machine

/-! ### Line state and contention -/

/-- A bit time in µs (R18). -/
def bitMicros (code : Nat) : Nat := if code = 0 then 8 else if code = 1 then 4 else 2

/-- The recessive line, in µs, of an idle gap (R19). -/
def State.gapLength (s : State) : Nat := gapBits * bitMicros s.cfg.bitRate

/-- The controller takes a line state, the gap counted from the given length of recessive line. -/
def State.lineState (st : LineState) (gap : Nat) (s : State) : State :=
  { s with bus := { s.bus with state := st, gap := gap } }

/-- The station enters RECEIVING; `own` when what it goes on assembling is left of its own spoiled frame (R20, R22, R26). -/
def State.beginReceiving (own : Bool) (s : State) : State :=
  { s with bus := { s.bus with state := .receiving, gap := 0, ownSpoiled := own } }

/-- A discarded frame is counted as a receive error, unless it is this station's own frame that its readback has spoiled
(R23; log 23). -/
def State.countDiscard (s : State) : State :=
  if s.bus.state = .receiving ∧ s.bus.ownSpoiled = true then s else s.bump .receiveErrors

/-- The station may offer the head of its queue (R20); asked in IDLE, so never in STUCK. When ACK clears TX_FAULT in
IDLE it may offer at once in that IDLE, where R28 and R180 say "at its next IDLE": the model's choice (log 37). -/
def State.mayOffer (s : State) : Bool :=
  decide s.offersAccepted && !s.flag .txFault && !s.bus.queue.isEmpty

/-- The head of the queue is offered: it is being contended from now on (R20, R30). -/
def contendHead : List QueuedFrame → List QueuedFrame
  | [] => []
  | q :: rest => { q with contended := true } :: rest

/-- The frame being contended (R30). -/
def State.contendedFrame (s : State) : Option QueuedFrame := s.bus.queue.find? (fun q => q.contended)

/-- The frame being contended leaves the queue. -/
def State.leaveContended (s : State) : State :=
  { s with bus := { s.bus with queue := s.bus.queue.eraseP (fun q => q.contended) } }

/-- The queue's answer to the removal request it has held back, whatever it has answered since (R30, R33; log 16). -/
def State.answerHeld (answer : RemovalAnswer) (s : State) : State :=
  match s.bus.removalHeld with
  | none => s
  | some body => { s with bus := { s.bus with removalHeld := none, removalAnswer := some ⟨body, answer⟩ } }

/-- A held removal request is answered, its frame having left the queue; a waiting withdrawal of its claim is then
carried out (R30, R74). -/
def State.answerLeft (answer : RemovalAnswer) (body : FrameBody) (s : State) : State :=
  match claimSlot body with
  | some slot => (s.answerHeld answer).answerRemoved slot
  | none => s.answerHeld answer

/-- The contention is lost for the frame: it stays at its place, unless an event was held for it, which
now takes it out (R22, R30). -/
def State.loseContention (s : State) : State :=
  match s.contendedFrame with
  | none => s
  | some q =>
    match q.heldEvent with
    | none => { s with bus := { s.bus with queue := s.bus.queue.map (fun x => { x with contended := false }) } }
    | some .expired => (s.leaveContended.expire q.frame.body).answerLeft .notQueued q.frame.body
    | some .removed => (s.leaveContended.hand (outcomeArrival q.frame.body .removed)).answerLeft .removed q.frame.body

/-- A held removal request is answered "in transmission" when the frame wins or its drive fails
(R30); a waiting withdrawal of its claim then waits on the frame (R74). -/
def State.answerSending (body : FrameBody) (s : State) : State :=
  match claimSlot body with
  | some slot => (s.answerHeld .inTransmission).answerInTransmission slot
  | none => s.answerHeld .inTransmission

/-- A spoiled transmission: counted, the spoil run raised, TX_FAULT set at 16, SPOILED to the owner
(R22, R26, R28). -/
def State.spoilFrame (body : FrameBody) (s : State) : State :=
  let run := min (s.bus.spoilRun + 1) spoilLimit
  let s1 := ({ s with bus := { s.bus with spoilRun := run } }).bump .spoiledTransmissions
  (if run = spoilLimit then s1.raise .txFault else s1).hand (outcomeArrival body .spoiled)

/-! ### Heard frames -/

/-- The slot field of a frame, if it has one. -/
def slotField : FrameBody → Option Slot
  | .stem slot _ _ _ _ => some slot
  | .claim slot _ => some slot
  | .yield slot _ => some slot
  | .lot _ lastSlot => some lastSlot
  | .hello _ => none

/-- Frames only a gauge sends: STEM, LOT, gauge-role HELLO (R35, R36). -/
def isGaugeFrame : FrameBody → Bool
  | .stem _ _ _ _ _ => true
  | .lot _ _ => true
  | .hello code => code == 1
  | .claim _ _ => false
  | .yield _ _ => false

/-- The content check fails (R25 step 2). -/
def contentBad (chainLength : Nat) (body : FrameBody) : Bool :=
  (match slotField body with
    | some slot => decide (chainLength ≤ slot)
    | none => false)
  || (match body with
    | .stem _ cls _ _ reason => (cls == 0) == (reason == .none)
    | .hello code => !(code == 1 || code == 2)
    | .claim _ _ => false
    | .yield _ _ => false
    | .lot _ _ => false)

/-- The consumers of a heard frame (R25 step 4). -/
def handOver (role : Option Role) (f : Frame) : List Instr :=
  match role with
  | some .gauge =>
    match f.body with
    | .stem slot cls _ _ _ => [.gaugeStemHeard slot cls]
    | .claim slot _ => [.gaugeClaimHeard slot]
    | .yield slot _ => [.gaugeYieldHeard slot]
    | .lot _ _ => []
    | .hello _ => []
  | some .drop =>
    match f.body with
    | .stem slot cls _ lotNo _ => [.flightTableStem slot cls lotNo]
    | .claim slot cradle => [.flightTableClaim slot cradle f.sender]
    | .yield slot reason => [.flightTableYield slot reason f.sender]
    | .lot lotNo lastSlot => [.flightTableLot lotNo lastSlot]
    | .hello _ => []
  | none => []

/-- Blocks that take the halt notice in a role (R176). The Carrier Tracker and the Status Port do nothing at the entry to
HALTED, and the loader is the one that hands the notices out; that none is handed to these three is the model's choice
(log 41). -/
def haltBlocks : Option Role → List Block
  | some .gauge => [.lineBus, .gaugeUnit]
  | some .drop => [.lineBus, .flightTable, .claimEngine, .cradleManager, .releaseUnit, .tiePort]
  | none => []

/-- The loader takes a halt report: HALTED, the announce timer stopped, a halt notice to every block
present (R176). -/
def State.haltReport (s : State) : State :=
  ({ s with loader := { s.loader with mode := .halted, announce := none } }).handAll
    ((haltBlocks s.loader.role).map (fun b => Instr.haltNotice b s.engine.held))

/-- The gauge id a gauge's frame finds accepted, or makes accepted (R35). -/
def acceptedGauge (former : Option Nat) (sender : Nat) : Nat := former.getD sender

/-- Steps 3 and 4 of R25: gauge-id acceptance in drop role, then hand-over. -/
def State.acceptFrame (f : Frame) (s : State) : State :=
  if s.loader.role = some .drop ∧ isGaugeFrame f.body = true then
    if acceptedGauge s.bus.gaugeId f.sender = f.sender then
      ({ s with bus := { s.bus with gaugeId := some f.sender } }).handAll (handOver s.loader.role f)
    else s.bump .foreignFrames
  else s.handAll (handOver s.loader.role f)

/-- A heard frame, the checks in the order of R25; `own` when this station was its sender (R34). The
checks and the hand-over belong to ANNOUNCING and ACTIVE; in HALTED a heard frame is counted and goes no further
(R25, R37; log 24). -/
def State.hearFrame (own : Bool) (f : Frame) (s : State) : State :=
  let s1 := s.bump .framesHeard
  if ¬ s.offersAccepted then s1
  else if own = false ∧ f.sender = s.stationId then (s1.raise .duplicateId).haltReport
  else if s.loader.role = some .gauge ∧ isGaugeFrame f.body = true ∧ f.sender ≠ s.stationId then
    (s1.raise .gaugeConflict).haltReport
  else if contentBad s.cfg.chainLength f.body = true then s1.bump .receiveErrors
  else s1.acceptFrame f

/-! ### Meanings: the line -/

/-- IDLE_GAP_COMPLETE (R19). -/
def execIdleGapComplete (s : State) : Result :=
  .next (if s.bus.state = .waitGap then s.lineState .idle 0 else s)

/-- DOMINANT_LEVEL_IN_WAIT_GAP: the count restarts, in WAIT_GAP and in STUCK (R19, R29). -/
def execDominantLevelInWaitGap (s : State) : Result :=
  .next (if s.bus.state = .waitGap ∨ s.bus.state = .stuck then s.lineState s.bus.state 0 else s)

/-- CONTENTION_WINDOW: the station joins with its queue head, or enters RECEIVING (R20). -/
def execContentionWindow (s : State) : Result :=
  .next (if s.bus.state = .idle then
    if s.mayOffer = true then
      { s with bus := { s.bus with state := .contending, queue := contendHead s.bus.queue } }
    else s.beginReceiving false
  else s)

/-- CONTENTION_LOST (R22). -/
def execContentionLost (s : State) : Result :=
  .next (if s.bus.state = .contending then (s.beginReceiving false).loseContention else s)

/-- CONTENTION_DRIVE_FAILED: counted as a spoiled transmission (R22). The station was not yet sending, so what it then
receives may be another's frame, and a discard of it is counted (R23; log 23). -/
def execContentionDriveFailed (s : State) : Result :=
  .next (if s.bus.state = .contending then
    match s.contendedFrame with
    | none => s.beginReceiving false
    | some q => (((s.beginReceiving false).leaveContended).answerSending q.frame.body).spoilFrame q.frame.body
  else s)

/-- CONTENTION_WON: the frame leaves the queue and is being sent (R22). -/
def execContentionWon (s : State) : Result :=
  .next (if s.bus.state = .contending then
    match s.contendedFrame with
    | none => s.beginReceiving false
    | some q =>
      let s1 := (s.lineState .sending 0).leaveContended
      ({ s1 with bus := { s1.bus with sending := some q.frame } }).answerSending q.frame.body
  else s)

/-- A transmission spoils: the frame being sent is discarded (R26). -/
def State.spoilSending (s : State) : State :=
  let s1 := { s with bus := { s.bus with sending := none } }
  match s.bus.sending with
  | none => s1
  | some f => s1.spoilFrame f.body

/-- SPOIL: the station receives what is left of its own frame (R26). -/
def execSpoil (s : State) : Result :=
  .next (if s.bus.state = .sending then s.spoilSending.beginReceiving true else s)

/-- FRAME_SENT: counted, SENT to the owner, and the sender hears the frame (R27). -/
def execFrameSent (s : State) : Result :=
  .next (if s.bus.state = .sending then
    let s1 := { s with bus := { s.bus with state := .waitGap, gap := 0, sending := none, spoilRun := 0 } }
    match s.bus.sending with
    | none => s1
    | some f => ((s1.bump .framesSent).hand (outcomeArrival f.body .sent)).hearFrame true f
  else s)

/-- FRAME_HEARD: the frame of another sender, its characters judged again here (R23, R25; log 23). -/
def execFrameHeard (chars : List Byte) (s : State) : Result :=
  .next (if s.bus.state = .receiving then
    match parseFrame chars with
    | none => s.countDiscard.lineState .waitGap 0
    | some f => (s.lineState .waitGap 0).hearFrame false f
  else s)

/-- The recessive line that counts towards the gap after a discard (R19). -/
def gapAfterDiscard (bitTime : Nat) : DiscardCause → Nat
  | .short => shortFrameBits * bitTime
  | .unassignedKind => 0
  | .framing => 0
  | .badCrc => 0

/-- FRAME_DISCARDED: counted, unless it is what is left of the own spoiled frame; a contention under way ends as lost
(R23; log 23). -/
def execFrameDiscarded (cause : DiscardCause) (s : State) : Result :=
  .next (if s.bus.state = .receiving ∨ s.bus.state = .contending then
    (s.countDiscard.lineState .waitGap (gapAfterDiscard (bitMicros s.cfg.bitRate) cause)).loseContention
  else s)

/-- STUCK_ENTRY: what was driven has been lost or spoiled by then (R29; log 25). -/
def execStuckEntry (s : State) : Result :=
  .next (match s.bus.state with
    | .stopped => s
    | .stuck => s
    | .contending => ((s.lineState .stuck 0).loseContention).raise .busStuck
    | .sending => (s.spoilSending.lineState .stuck 0).raise .busStuck
    | .waitGap => (s.lineState .stuck 0).raise .busStuck
    | .idle => (s.lineState .stuck 0).raise .busStuck
    | .receiving => (s.lineState .stuck 0).raise .busStuck)

/-- STUCK_EXIT (R29). -/
def execStuckExit (s : State) : Result :=
  .next (if s.bus.state = .stuck then s.lineState .idle 0 else s)

/-! ### Meanings: the queue -/

/-- CARRIER_NOTICE (R32). -/
def execCarrierNotice (slotHere : Slot) (s : State) : Result :=
  let s := s.taken (.carrierNotice slotHere)
  .next (if s.loaded then s.takeCarrierNotice slotHere else s)

/-- REMOVAL_REQUEST: the answer stands in `removalAnswer`; a frame removed at once gives its owner
REMOVED (R33; log 16). -/
def execRemovalRequest (body : FrameBody) (s : State) : Result :=
  let s := s.taken (.removalRequest body)
  .next (if s.loaded then
    match s.requestRemoval body with
    | (.removed, s1) => s1.hand (outcomeArrival body .removed)
    | (.inTransmission, s1) => s1
    | (.notQueued, s1) => s1
    | (.deferred, s1) => s1
  else s)

/-- The queue's entry to HALTED: every frame leaves with DISCARDED (R37), in queue order by the model's choice (log 39). -/
def State.haltLineBus (s : State) : State :=
  ({ s with bus := { s.bus with queue := [] } }).handAll
    (s.bus.queue.map (fun (q : QueuedFrame) => outcomeArrival q.frame.body .discarded))

end Sys2Proof.Machine
end

