-- ==== Sys2Proof/Machine/ReleaseUnit.lean ====
section
/-! DEFINITION. The Release Unit (chapter 7): release records, the carrier step, the flap, pulse and
confirmation window, gate edges, hold, clear and the entry to HALTED. -/

namespace Sys2Proof.Machine

/-! ### Endings of a record (R151) -/

/-- A record ends with MISS and a YIELD asked for. -/
def State.giveUp (slot : Slot) (c : CradleId) (reason : YieldReason) (s : State) : State :=
  s.handAll [.miss c, .yieldRequest slot reason]

/-- A release is skipped: counted, with YIELD SKIP (R140, R141, R145). -/
def State.skipRelease (slot : Slot) (c : CradleId) (s : State) : State :=
  (s.giveUp slot c .skip).bump .skips

/-- No record stands in DELAY any more. -/
def State.dropDelay (s : State) : State :=
  { s with release := { s.release with delayed := none, delayTimer := none } }

/-! ### The flap -/

/-- The flap is settled at a cradle (R143). -/
def ReleaseUnit.settledAt (r : ReleaseUnit) (c : CradleId) : Bool := r.flap == c && r.settle.isNone

/-- The flap is judged (R144). -/
def State.judgeFlap (s : State) : State :=
  match s.release.delayed, s.release.window with
  | some r, none =>
    if r.cradle = s.release.flap then s
    else { s with release := { s.release with flap := r.cradle, settle := some s.cfg.settleTime } }
  | some _, some _ => s
  | none, some _ => s
  | none, none => s

/-! ### The confirmation window -/

/-- The miss of a record still unresolved at its window's close (R146). -/
def State.missRecord (r : ReleaseRecord) (s : State) : State :=
  if r.cleared = true then s.hand (.miss r.cradle)
  else (s.giveUp r.slot r.cradle .miss).bump .misses

/-- The confirmation window closes, its record resolved by a miss if it still has one (R146). -/
def State.closeWindow (w : ConfirmationWindow) (s : State) : State :=
  let s1 := { s with release := { s.release with window := none } }
  match w.record with
  | none => s1
  | some r => s1.missRecord r

/-- The close of the window that is open, if one is (R145 step 1). -/
def State.closeOpenWindow (s : State) : State :=
  match s.release.window with
  | none => s
  | some w => s.closeWindow w

/-! ### Making a record -/

/-- The width of the pulse: W, or the available time below it (R140). -/
def pulseWidthFor (cfg : StationConfig) (available : Ticks) : Ticks := min cfg.pulseWidth available

/-- A record is made in DELAY, or the release is skipped for width (R140). -/
def State.makeRecord (slot : Slot) (c : CradleId) (period : Ticks) (s : State) : State :=
  let delay := fractionTicks period s.cfg.releaseFraction
  if s.cfg.releaseGuard + delay + s.cfg.pulseMinimum ≤ period then
    let width := pulseWidthFor s.cfg (period - s.cfg.releaseGuard - delay)
    ({ s with release := { s.release with
      delayed := some ⟨slot, c, period, width, .delay, false⟩
      delayTimer := some delay } }).judgeFlap
  else s.skipRelease slot c

/-! ### The carrier step -/

/-- The open window's record takes a phase. -/
def windowPhase (phase : ReleasePhase) (w : ConfirmationWindow) : ConfirmationWindow :=
  { w with record := w.record.map (fun r => { r with phase := phase }) }

/-- REL goes off; the record of the pulse passes to WINDOW (R141, R145). -/
def State.endPulse (s : State) : State :=
  { s with release := { s.release with
    rel := false
    pulseTimer := none
    window := s.release.window.map (windowPhase .window) } }

/-- Step 1: a pulse still on is cut (R141). -/
def State.cutPulse (s : State) : State :=
  if s.release.rel = true then s.endPulse.bump .shortReleases else s

/-- Step 2: a record in DELAY is overtaken, or at a slip cancelled (R141, R142). -/
def State.dropOvertaken (slip : Bool) (s : State) : State :=
  match s.release.delayed with
  | none => s
  | some r =>
    if slip = true then s.dropDelay.giveUp r.slot r.cradle .void
    else s.dropDelay.skipRelease r.slot r.cradle

/-- The carrier step (R141, R142). -/
def State.carrierStep (slip : Bool) (s : State) : State := s.cutPulse.dropOvertaken slip

/-- The pulse whose step was last taken (log 18). -/
def State.setLastStep (last : Option Slot) (s : State) : State :=
  { s with release := { s.release with lastStep := last } }

/-- The carrier step of a pulse that is not a slip, once for each pulse: at whichever of the arrival and
the hand-over comes first (R141; log 18). -/
def State.stepOnce (slotHere : Slot) (s : State) : State :=
  if s.release.lastStep = some slotHere then s
  else (s.carrierStep false).setLastStep (some slotHere)

/-! ### Starting a pulse -/

/-- The pulse starts: an open window closes, REL goes on, a new window opens (R145). -/
def State.startPulse (r : ReleaseRecord) (s : State) : State :=
  let s1 := s.closeOpenWindow.judgeFlap
  { s1 with release := { s1.release with
    delayed := none
    delayTimer := none
    rel := true
    pulseTimer := some r.width
    window := some ⟨r.cradle, s1.cfg.confirmTime, 0, some { r with phase := .pulse }⟩ } }

/-! ### Gate edges -/

/-- The window takes an edge count and keeps or loses its record. -/
def State.setWindow (w : ConfirmationWindow) (s : State) : State :=
  { s with release := { s.release with window := some w } }

/-- A stray: counted, and a cradle marked (R147). -/
def State.stray (c : CradleId) (s : State) : State := (s.bump .strays).hand (.uncertainMark c)

/-- A placement (R147). -/
def State.placement (w : ConfirmationWindow) (s : State) : State :=
  ((s.setWindow { w with edges := 1, record := none }).hand (.place w.cradle)).bump .releases

/-- A double (R147). -/
def State.double (w : ConfirmationWindow) (s : State) : State :=
  ((s.setWindow { w with edges := 2 }).bump .doubles).hand (.uncertainMark w.cradle)

/-- A filtered GATE edge, the rows in the order of R147. The window of a cleared record keeps its edge
count at a stray (log 14); a window with count 0 and no record does not arise (log 26). -/
def State.judgeEdge (s : State) : State :=
  match s.release.window with
  | none => s.stray s.release.flap
  | some w =>
    if w.edges = 0 then
      match w.record with
      | some r => if r.cleared = true then s.stray w.cradle else s.placement w
      | none => s
    else s.double w

/-! ### Entry to HALTED -/

/-- The MISS a record leaves behind at the entry to HALTED (R152). -/
def haltMiss : Option ReleaseRecord → List Instr
  | none => []
  | some r => [.miss r.cradle]

/-- The Release Unit's entry to HALTED (R152). Of two records that end there the window's gives its MISS before the one in
DELAY, by the model's choice (log 39). -/
def State.haltReleaseUnit (held : Bool) (s : State) : State :=
  ({ s with release := {
      delayed := none
      delayTimer := none
      rel := false
      pulseTimer := none
      window := none
      flap := .a
      settle := if s.release.flap = CradleId.a then s.release.settle else some s.cfg.settleTime
      held := held
      lastStep := none } }).handAll (haltMiss (s.release.window.bind (fun w => w.record)) ++ haltMiss s.release.delayed)

/-! ### Meanings -/

/-- A hand-over taken in ACTIVE: the carrier step first, then hold, clear and the width (R140; log 17). -/
def State.takeHandover (slot : Slot) (c : CradleId) (period : Ticks) (s : State) : State :=
  let s1 := s.stepOnce slot
  if s1.release.held = true then s1.giveUp slot c .hold
  else if s1.voidPending c = true then s1.giveUp slot c .void
  else s1.makeRecord slot c period

/-- RELEASE_HANDOVER (R140). Taken in HALTED it ends with MISS, as the records did (R152; log 13). -/
def execReleaseHandover (slot : Slot) (c : CradleId) (period : Ticks) (s : State) : Result :=
  let s := s.taken (.releaseHandover slot c period)
  .next (if s.dropActive then s.takeHandover slot c period
    else if s.dropLoaded ∧ s.loader.mode = .halted then s.hand (.miss c)
    else s)

/-- RELEASE_CARRIER_STEP (R141, R142). -/
def execReleaseCarrierStep (arrival : Arrival) (s : State) : Result :=
  let s := s.taken (.releaseCarrierStep arrival)
  .next (if s.dropActive then
    (if arrival.slip = true then (s.carrierStep true).setLastStep none else s.stepOnce arrival.slotHere)
  else s)

/-- FLAP_SETTLE_EXPIRY (R143). -/
def execFlapSettleExpiry (s : State) : Result :=
  .next (if s.dropLoaded then { s with release := { s.release with settle := none } } else s)

/-- DELAY_EXPIRY: the pulse starts, or the release is skipped for the flap (R145). -/
def execDelayExpiry (s : State) : Result :=
  .next (if s.dropLoaded then
    match s.release.delayed with
    | none => s
    | some r =>
      if s.release.settledAt r.cradle = true then s.startPulse r
      else s.dropDelay.skipRelease r.slot r.cradle
  else s)

/-- PULSE_END_EXPIRY (R145). -/
def execPulseEndExpiry (s : State) : Result :=
  .next (if s.dropLoaded ∧ s.release.rel = true then s.endPulse else s)

/-- CONFIRMATION_WINDOW_EXPIRY: the window closes and the flap is judged (R146). -/
def execConfirmationWindowExpiry (s : State) : Result :=
  .next (if s.dropLoaded then
    match s.release.window with
    | none => s
    | some w => (s.closeWindow w).judgeFlap
  else s)

/-- The GATE filter takes a state. -/
def State.setGateFilter (f : Filter) (s : State) : State :=
  { s with tracker := { s.tracker with gateFilter := f } }

/-- FILTERED_GATE_EDGE: one edge of each assertion (R4), judged in ANNOUNCING and ACTIVE and without
effect in HALTED (R147, R152). -/
def execFilteredGateEdge (s : State) : Result :=
  .next (if s.dropLoaded ∧ s.tracker.gateFilter.admitsEdge = true then
    (if s.offersAccepted then (s.setGateFilter .held).judgeEdge else s.setGateFilter .held)
  else s)

/-- HOLD_NOTICE_RELEASE_UNIT: the held copy; at an assertion a record in DELAY is cancelled (R149). -/
def execHoldNoticeReleaseUnit (held : Bool) (s : State) : Result :=
  let s := s.taken (.holdNoticeReleaseUnit held)
  .next (if s.dropActive then
    let s1 := { s with release := { s.release with held := held } }
    if held = true then
      match s1.release.delayed with
      | none => s1
      | some r => s1.dropDelay.giveUp r.slot r.cradle .hold
    else s1
  else s)

/-- The cleared mark on the record of the open window, if it is a record for the cradle (R150). -/
def markCleared (c : CradleId) (w : ConfirmationWindow) : ConfirmationWindow :=
  { w with record := w.record.map (fun r => if r.cradle = c then { r with cleared := true } else r) }

/-- A record in DELAY for a cleared cradle is cancelled (R150). -/
def State.cancelCleared (c : CradleId) (s : State) : State :=
  match s.release.delayed with
  | none => s
  | some r => if r.cradle = c then s.dropDelay.giveUp r.slot r.cradle .void else s

/-- CLEAR_NOTICE_RELEASE (R150). -/
def execClearNoticeRelease (c : CradleId) (s : State) : Result :=
  let s := s.taken (.clearNoticeRelease c)
  .next (if s.dropActive then
    ({ s with release := { s.release with window := s.release.window.map (markCleared c) } }).cancelCleared c
  else s)

end Sys2Proof.Machine
end

