-- ==== Sys2Proof/Machine/TiePort.lean ====
section
/-! DEFINITION. The Tie Port (chapter 8): starting a tie, the abort step, sending and acknowledge,
tying, the status word, results, hold. -/

namespace Sys2Proof.Machine

/-! ### Starting a tie -/

/-- The contents of the TIE command, taken from the cradle record (R133). -/
def tieRecordOf (c : CradleId) (k : Cradle) : TieRecord where
  cradle := c
  cls := match k.binding with
    | some b => b.cls
    | none => 0
  lot := match k.binding with
    | some b => b.lot
    | none => 0
  count := k.placed
  bunch := k.bunch.getD 0
  short := k.short
  uncertain := k.uncertain

/-- A tie starts on the head cradle: it becomes TYING, and sending begins, with the abort step first if the
mark is set (R155). -/
def State.startTie (c : CradleId) (s : State) : State :=
  let s1 := s.setCradle c { s.cradle c with state := .tying }
  { s1 with tie := { s1.tie with
    phase := .sending
    abortStep := s1.tie.abortPending
    current := some (tieRecordOf c (s.cradle c))
    shift := some shiftTicks } }

/-- A start is judged (R155). -/
def State.judgeTieStart (s : State) : State :=
  if s.tie.phase = .idle ∧ s.dropActive ∧ s.tie.held = false then
    match s.readyHead with
    | none => s
    | some c => s.startTie c
  else s

/-! ### Phases -/

/-- The abort step ends: the TIE record is sent (R156). -/
def State.endAbort (s : State) : State :=
  { s with tie := { s.tie with
    phase := .sending
    abortStep := false
    abortPending := false
    earlyAck := false
    limit := none
    shift := some shiftTicks } }

/-- The wait for an acknowledge begins (R156, R157). -/
def State.awaitAck (s : State) : State :=
  { s with tie := { s.tie with phase := .awaitAck, limit := some s.cfg.ackLimit, shift := none } }

/-- The TIE is acknowledged: TYING under the tie limit (R158). -/
def State.beginTying (s : State) : State :=
  { s with tie := { s.tie with phase := .tying, limit := some s.cfg.tieLimit, shift := none } }

/-- The status read begins (R158, R159). -/
def State.beginReading (s : State) : State :=
  { s with tie := { s.tie with phase := .reading, limit := none } }

/-- The current TIE record has been shifted: it becomes the last one (R157). -/
def State.recordSent (s : State) : State :=
  { s with tie := { s.tie with lastRecord := s.tie.current } }

/-- The early acknowledge is cleared (R157). -/
def State.clearEarly (s : State) : State := { s with tie := { s.tie with earlyAck := false } }

/-! ### Results -/

/-- The counter of a return code (R162 step 3). -/
def tieCounter : TieCode → CounterName
  | .tied => .tied
  | .rework => .reworked
  | .quit => .tieFaults
  | .noAck => .tieFaults
  | .timeout => .tieFaults

/-- Whether a result sets the abort-pending mark (R156). -/
def setsAbort : TieCode → Bool
  | .noAck => true
  | .timeout => true
  | .tied => false
  | .rework => false
  | .quit => false

/-- The end of a tie, then the judgment of a start on the return to IDLE (R162). The judgment is made within this
arrival, before the Cradle Manager takes the tie result, so that the ended cradle is still the head and the queue
notice starts the next tie: the model's choice between the two orders R162 allows (log 36). -/
def State.endTie (code : TieCode) (s : State) : State :=
  let done := { s with tie := { s.tie with
    phase := .idle
    abortStep := false
    abortPending := s.tie.abortPending || setsAbort code
    current := none
    earlyAck := false
    limit := none
    shift := none
    lastCode := some code
    lastFault := if setsAbort code = true then 0 else s.tie.lastFault } }
  let counted := done.bump (tieCounter code)
  (match s.tie.current with
    | none => counted
    | some r => counted.hand (.tieResult r.cradle code)).judgeTieStart

/-- The count check fails: counted neither 0 nor the record's count (R163). -/
def countMismatch (word : Word16) (current : Option TieRecord) : Bool :=
  match current with
  | none => false
  | some r => countedStems word != 0 && countedStems word != r.count

/-- The status word is complete (R160, R163). -/
def State.takeStatusWord (word : Word16) (s : State) : State :=
  let s1 := { s with tie := { s.tie with lastFault := tierFault word } }
  let s2 := if tieCodeOf word = .tied ∧ countMismatch word s.tie.current = true then
      s1.bump .countMismatches
    else s1
  s2.endTie (tieCodeOf word)

/-! ### Meanings -/

/-- QUEUE_NOTICE (R155). -/
def execQueueNotice (s : State) : Result := .next (s.taken .queueNotice).judgeTieStart

/-- HOLD_NOTICE_TIE_PORT: the held copy; at a release a start is judged (R165). -/
def execHoldNoticeTiePort (held : Bool) (s : State) : Result :=
  let s := s.taken (.holdNoticeTiePort held)
  .next (if s.dropActive then
    let s1 := { s with tie := { s.tie with held := held } }
    if held = true then s1 else s1.judgeTieStart
  else s)

/-- RECORD_SHIFTED: the last bit of the ABORT or the TIE (R156, R157). -/
def execRecordShifted (s : State) : Result :=
  .next (if s.dropLoaded ∧ s.tie.phase = .sending then
    if s.tie.abortStep = true then
      (if s.tie.earlyAck = true then s.endAbort else s.awaitAck)
    else if s.tie.earlyAck = true then s.recordSent.clearEarly.beginTying
    else s.recordSent.awaitAck
  else s)

/-- TACK_EDGE (R156, R157, R158, R164). -/
def execTackEdge (s : State) : Result :=
  .next (if s.dropLoaded then
    match s.tie.phase with
    | .sending => { s with tie := { s.tie with earlyAck := true } }
    | .awaitAck => if s.tie.abortStep = true then s.endAbort else s.beginTying
    | .idle => s
    | .tying => s
    | .reading => s
  else s)

/-- TDONE_EDGE (R156 to R159, R164). -/
def execTdoneEdge (s : State) : Result :=
  .next (if s.dropLoaded then
    match s.tie.phase with
    | .awaitAck => if s.tie.abortStep = true then s.bump .lateDone else s.beginReading
    | .tying => s.beginReading
    | .idle => s.bump .lateDone
    | .sending => s.bump .lateDone
    | .reading => s.bump .lateDone
  else s)

/-- ACK_LIMIT_EXPIRY: the abort step ends quietly, or the tie ends with NO_ACK (R156, R158). -/
def execAckLimitExpiry (s : State) : Result :=
  .next (if s.dropLoaded ∧ s.tie.phase = .awaitAck then
    (if s.tie.abortStep = true then s.endAbort else s.endTie .noAck)
  else s)

/-- TIE_LIMIT_EXPIRY (R159). -/
def execTieLimitExpiry (s : State) : Result :=
  .next (if s.dropLoaded ∧ s.tie.phase = .tying then s.endTie .timeout else s)

/-- STATUS_WORD_COMPLETE (R160, R162, R163). -/
def execStatusWordComplete (word : Word16) (s : State) : Result :=
  .next (if s.dropLoaded ∧ s.tie.phase = .reading then s.takeStatusWord word else s)

end Sys2Proof.Machine
end

