-- ==== Sys2Proof/Machine/Tracker.lean ====
section
/-! DEFINITION. The Carrier Tracker (chapter 1): the width filters' inputs, the early-pulse check, the
numbering with slip and home-missed, the period, stall. -/

namespace Sys2Proof.Machine

/-! ### Inputs -/

/-- The level of an input is as a command reports it. -/
def Pins.set (p : Pins) (v : Bool) : FilteredInput → Pins
  | .cp => { p with cp := v }
  | .gate => { p with gate := v }
  | .lot => { p with lot := v }
  | .clrA => { p with clrA := v }
  | .clrB => { p with clrB := v }
  | .ack => { p with ack := v }

/-- The state with an input's level. -/
def State.setPin (input : FilteredInput) (v : Bool) (s : State) : State :=
  { s with pins := s.pins.set v input }

/-- The filter of an input. -/
def State.filter (s : State) : FilteredInput → Filter
  | .cp => s.tracker.cpFilter
  | .gate => s.tracker.gateFilter
  | .lot => s.gauge.lotFilter
  | .clrA => s.cradles.clrA
  | .clrB => s.cradles.clrB
  | .ack => s.status.ackFilter

/-- The state with an input's filter changed. -/
def State.setFilter (input : FilteredInput) (f : Filter) (s : State) : State :=
  match input with
  | .cp => { s with tracker := { s.tracker with cpFilter := f } }
  | .gate => { s with tracker := { s.tracker with gateFilter := f } }
  | .lot => { s with gauge := { s.gauge with lotFilter := f } }
  | .clrA => { s with cradles := { s.cradles with clrA := f } }
  | .clrB => { s with cradles := { s.cradles with clrB := f } }
  | .ack => { s with status := { s.status with ackFilter := f } }

/-- Whether the filter is qualifying an assertion. -/
def Filter.isQualifying : Filter → Bool
  | .qualifying _ => true
  | .stopped => false
  | .released => false
  | .held => false

/-- A CP assertion released while qualifying is a counted glitch; the other inputs count nothing (R1, R4,
R56, R127, R180). A release named at the very tick at which the assertion reaches its width is taken before the
qualification that has fallen due, as every waiting command is: a glitch for CP, no edge for GATE, by the model's
choice (log 30). -/
def State.countGlitch (input : FilteredInput) (s : State) : State :=
  if input = .cp ∧ (s.filter .cp).isQualifying = true then s.bump .glitches else s

/-! ### An accepted carrier pulse -/

/-- The advanced value of the numbering (R7). -/
def State.advanced (s : State) : Slot := (s.here + 1) % s.cfg.chainLength

/-- Whether a pulse with this HM sample is a slip (R8). -/
def State.isSlip (s : State) (home : Bool) : Bool :=
  decide (s.tracker.state ≠ .unsynced) && home && decide (s.advanced ≠ 0)

/-- The numbering of a pulse (R6, R7, R8, R11). -/
def State.numbered (home : Bool) (s : State) : Option Slot :=
  if home = true then some 0
  else if s.tracker.state = .unsynced then none
  else some s.advanced

/-- The period rules at a pulse: the timed flag's look, or the replacement by Pnom (R6, R13, R14). -/
def State.timePulse (home : Bool) (s : State) : State :=
  match s.tracker.state with
  | .unsynced =>
    if home = true then
      { s with tracker := { s.tracker with period := s.cfg.periodNominal, timed := false } }
    else s
  | .stalled => { s with tracker := { s.tracker with period := s.cfg.periodNominal, timed := false } }
  | .tracking =>
    if s.tracker.timed = true then
      { s with tracker := { s.tracker with period := s.tracker.interval.getD s.tracker.period } }
    else { s with tracker := { s.tracker with timed := true } }

/-- The home count at a pulse; HOME_MISSING at 2L (R12). -/
def State.countHome (home : Bool) (s : State) : State :=
  if home = true then { s with tracker := { s.tracker with homeCount := 0 } }
  else
    let n := min (s.tracker.homeCount + 1) (2 * s.cfg.chainLength)
    let s1 := { s with tracker := { s.tracker with homeCount := n } }
    if n = 2 * s.cfg.chainLength then s1.raise .homeMissing else s1

/-- Slip and home-missed are counted (R7, R8). -/
def State.countNumbering (home : Bool) (s : State) : State :=
  if s.isSlip home = true then (s.bump .slips).raise .slip
  else if s.tracker.state ≠ .unsynced ∧ home = false ∧ s.advanced = 0 then s.bump .homeMissed
  else s

/-- Tracker state, slot here and interval timer after a pulse (R6, R7, R11, R13). -/
def State.placePulse (slot : Option Slot) (s : State) : State :=
  { s with tracker := { s.tracker with
    state := match slot with
      | some _ => .tracking
      | none => .unsynced
    slotHere := slot
    interval := some 0 } }

/-- The consumers of a carrier arrival in each role (R9). -/
def arrivalConsumers (role : Option Role) (a : Arrival) : List Instr :=
  match role with
  | some .gauge => [.gaugeCarrierArrival a]
  | some .drop => [.flightTableCarrierArrival a, .claimEngineCarrierArrival a, .cradleCarrierArrival a, .releaseCarrierStep a]
  | none => []

/-- The pulse is handed to the consumers when it leaves the tracker in TRACKING (R6, R9). -/
def State.handArrival (slot : Option Slot) (slip : Bool) (s : State) : State :=
  match slot with
  | none => s
  | some here => s.handAll (arrivalConsumers s.loader.role ⟨here, s.tracker.period, slip⟩)

/-- An accepted carrier pulse with its HM sample (R3, R6 to R9, R11 to R14). -/
def State.acceptPulse (home : Bool) (s : State) : State :=
  ((((s.countNumbering home).timePulse home).countHome home).placePulse (s.numbered home)).handArrival
    (s.numbered home) (s.isSlip home)

/-- Whether a qualified edge is an early pulse (R2). -/
def State.isEarly (s : State) : Bool :=
  match s.tracker.interval with
  | none => false
  | some n => decide (n < s.cfg.periodMin)

/-- A qualified CP edge: early, or an accepted carrier pulse (R2). -/
def State.judgePulse (home : Bool) (s : State) : State :=
  if s.isEarly = true then s.bump .earlyPulses else s.acceptPulse home

/-! ### Meanings -/

/-- FILTER_INPUT_ASSERTED: the level, and the filter if it runs and stands released (R1, R5). -/
def execFilterInputAsserted (input : FilteredInput) (s : State) : Result :=
  let s1 := s.setPin input true
  .next (s1.setFilter input (s1.filter input).onAssert)

/-- FILTER_INPUT_RELEASED: the level, and the filter back to released if it runs (R1). -/
def execFilterInputReleased (input : FilteredInput) (s : State) : Result :=
  let s1 := (s.countGlitch input).setPin input false
  .next (s1.setFilter input (s1.filter input).onRelease)

/-- CP_QUALIFICATION: one edge of each assertion (R1), judged by the early-pulse check (R2). Named with no assertion
reported it leaves the pin's level released, so a filter that starts again after a reset starts released (R5): the model's
choice (log 3, log 6). -/
def execCpQualification (home : Bool) (s : State) : Result :=
  .next (if s.loaded ∧ s.tracker.cpFilter.admitsEdge = true then
    (s.setFilter .cp .held).judgePulse home
  else s)

/-- STALL (R10): the interval timer has reached 262,143 in TRACKING; a pulse taken first has restarted the
timer, and the expiry then does not occur (R11). -/
def execStall (s : State) : Result :=
  .next (if s.tracker.state = .tracking ∧ s.tracker.interval = some stallLimit then
    { s with tracker := { s.tracker with state := .stalled } }
  else s)

end Sys2Proof.Machine
end

