-- ==== Sys2Proof/Machine/Clock.lean ====
section
/-! DEFINITION. The part's own clock: one tick of 10 µs, and the command a timer, filter or line count brings
when it has run out (log 2). -/

namespace Sys2Proof.Machine

/-! ### One tick -/

/-- The loader's timers: the announce timer and the retry wait (R169, R172). -/
def tickLoader (l : Loader) : Loader :=
  { l with
    announce := countDown l.announce
    memory := match l.memory with
      | .retryWait attempt left => .retryWait attempt (left - 1)
      | .inactive => .inactive
      | .transaction attempt => .transaction attempt }

/-- The interval timer, which stays at 262,143, and the two sensor filters (R1, R4, R13). -/
def tickTracker (cfg : StationConfig) (t : Tracker) : Tracker :=
  { t with
    interval := t.interval.map (fun n => min (n + 1) stallLimit)
    cpFilter := t.cpFilter.tick cfg.cpWidth
    gateFilter := t.gateFilter.tick cfg.gateWidth }

/-- 10 µs of line in WAIT_GAP and STUCK: recessive, or dominant by the free level (R19, R29; log 5). -/
def tickLineBus (now : Nat) (b : LineBus) : LineBus :=
  if b.state = .waitGap ∨ b.state = .stuck then
    { b with gap := if Config.lineDominantLevel now = true then 0 else b.gap + 10 }
  else b

/-- The request timer of the scan port (R38, R39). -/
def tickPort (limit : Ticks) : ScanPort → ScanPort
  | .idle => .idle
  | .awaiting timer clocking position => .awaiting (min (timer + 1) limit) clocking position

/-- The scan port, the open window's time and the LOT filter (R39, R42, R56). -/
def tickGauge (cfg : StationConfig) (g : GaugeUnit) : GaugeUnit :=
  { g with
    port := tickPort cfg.responseLimit g.port
    window := g.window.map (fun w => { w with elapsed := w.elapsed + 1 })
    lotFilter := g.lotFilter.tick panelWidth }

/-- The hold filter's count (R89). -/
def tickHold : HoldFilter → HoldFilter
  | .changing n => .changing (min (n + 1) panelWidth)
  | .stopped => .stopped
  | .steady => .steady

/-- The clear filters (R127). -/
def tickCradles (m : CradleManager) : CradleManager :=
  { m with clrA := m.clrA.tick panelWidth, clrB := m.clrB.tick panelWidth }

/-- Delay, pulse-end, window and settle timers (R139, R143). -/
def tickRelease (r : ReleaseUnit) : ReleaseUnit :=
  { r with
    delayTimer := countDown r.delayTimer
    pulseTimer := countDown r.pulseTimer
    window := r.window.map (fun w => { w with left := w.left - 1 })
    settle := countDown r.settle }

/-- The limit timer and the shifting of a record (R157, R158, R159). -/
def tickTie (t : TiePort) : TiePort := { t with limit := countDown t.limit, shift := countDown t.shift }

/-- The ACK filter and the flash timer (R180, R181). -/
def tickStatus (p : StatusPort) : StatusPort :=
  { p with ackFilter := p.ackFilter.tick panelWidth, flash := countDown p.flash }

/-- One tick of the whole part. -/
def State.tick (s : State) : State :=
  { s with
    loader := tickLoader s.loader
    tracker := tickTracker s.cfg s.tracker
    bus := tickLineBus s.now s.bus
    gauge := tickGauge s.cfg s.gauge
    engine := { s.engine with holdFilter := tickHold s.engine.holdFilter }
    cradles := tickCradles s.cradles
    release := tickRelease s.release
    tie := tickTie s.tie
    status := tickStatus s.status
    now := s.now + 1 }

/-! ### What has fallen due -/

/-- Whether the retry wait has run out (R169). -/
def State.retryDue (s : State) : Bool :=
  match s.loader.memory with
  | .retryWait _ left => left == 0
  | .inactive => false
  | .transaction _ => false

/-- Whether a level change of HOLD has lasted 2,000 ticks (R89). -/
def holdDue : HoldFilter → Bool
  | .changing n => decide (panelWidth ≤ n)
  | .stopped => false
  | .steady => false

/-- Whether the recessive line makes a gap (R19, R29). -/
def State.gapDue (s : State) (st : LineState) : Bool :=
  decide (s.bus.state = st ∧ s.gapLength ≤ s.bus.gap)

/-- Whether the next scan of the open window has fallen due (R42). -/
def State.scanIsDue (s : State) : Bool :=
  match s.gauge.window with
  | none => false
  | some w => decide (w.nextScan < s.cfg.scanCount
      ∧ fractionTicks w.period (s.cfg.scanStart + w.nextScan * s.cfg.scanStep) ≤ w.elapsed)

/-- Whether the response limit has run out (R39). -/
def State.responseDue (s : State) : Bool :=
  match s.gauge.port with
  | .idle => false
  | .awaiting timer _ _ => decide (s.cfg.responseLimit ≤ timer)

/-- Whether the open confirmation window's time is up (R146). -/
def State.windowDue (s : State) : Bool :=
  match s.release.window with
  | none => false
  | some w => w.left == 0

/-- What can fall due in both roles past loading. A station in IDLE that may offer opens its window, also where ACK has
made it able to in that IDLE (log 37). -/
def State.commonDue (s : State) : List (Bool × Instr) :=
  [ (s.tracker.cpFilter.due s.cfg.cpWidth, .cpQualification (Config.homeMarkLevel s.now)),
    (s.status.ackFilter.due panelWidth, .ackPress),
    (decide (s.tracker.state = .tracking ∧ s.tracker.interval = some stallLimit), .stall),
    (decide (s.loader.mode = .announcing ∧ s.loader.announce = some 0), .announceTimerExpiry),
    (s.gapDue .waitGap, .idleGapComplete),
    (s.gapDue .stuck, .stuckExit),
    (decide (s.bus.state = .idle) && s.mayOffer, .contentionWindow),
    (decide (s.status.flash = some 0), .lampFlashToggle) ]

/-- What can fall due in gauge role. -/
def State.gaugeDue (s : State) : List (Bool × Instr) :=
  [ (s.gauge.lotFilter.due panelWidth, .lotPress),
    (s.responseDue, .responseLimitExpiry),
    (s.scanIsDue, .scanDue (Config.scanReadyLevel s.now)) ]

/-- What can fall due in drop role. -/
def State.dropDue (s : State) : List (Bool × Instr) :=
  [ (s.tracker.gateFilter.due s.cfg.gateWidth, .filteredGateEdge),
    (s.cradles.clrA.due panelWidth, .clear .a),
    (s.cradles.clrB.due panelWidth, .clear .b),
    (holdDue s.engine.holdFilter && !s.engine.held, .holdAssertion),
    (holdDue s.engine.holdFilter && s.engine.held, .holdRelease),
    (decide (s.release.settle = some 0), .flapSettleExpiry),
    (decide (s.release.delayed.isSome = true ∧ s.release.delayTimer = some 0), .delayExpiry),
    (decide (s.release.rel = true ∧ s.release.pulseTimer = some 0), .pulseEndExpiry),
    (s.windowDue, .confirmationWindowExpiry),
    (decide (s.tie.phase = .sending ∧ s.tie.shift = some 0), .recordShifted),
    (decide (s.tie.phase = .awaitAck ∧ s.tie.limit = some 0), .ackLimitExpiry),
    (decide (s.tie.phase = .tying ∧ s.tie.limit = some 0), .tieLimitExpiry) ]

/-- What can fall due in a role. -/
def State.roleDue (s : State) : List (Bool × Instr) :=
  match s.loader.role with
  | some .gauge => s.gaugeDue
  | some .drop => s.dropDue
  | none => []

/-- The first of a list that is due. -/
def firstDue : List (Bool × Instr) → Option Instr
  | [] => none
  | (isDue, c) :: rest => if isDue = true then some c else firstDue rest

/-- The command that time has brought, the first in a fixed order where several are due together (log 2). -/
def State.due (s : State) : Option Instr :=
  if s.loaded then firstDue (s.commonDue ++ s.roleDue)
  else if s.loader.mode = .loading ∧ s.retryDue = true then some .retryWaitExpiry
  else none

end Sys2Proof.Machine
end

