-- ==== Sys2Proof/Machine/Loader.lean ====
section
/-! DEFINITION. The Configuration Loader (chapter 9): reset, straps, the configuration read, the end of
loading, announcing, the mode notice and the halt notice. -/

namespace Sys2Proof.Machine

/-! ### Reset and the read -/

/-- Every block at its reset values (R178); input levels, waiting commands and the model's tick count stay
(log 8). -/
def State.resetBlocks (s : State) : State :=
  { State.reset with pins := s.pins, now := s.now, pending := s.pending }

/-- The straps are read and the memory transaction begins (R168, R169). -/
def State.readStraps (rolePin : Bool) (idPins : BitVec 6) (s : State) : State :=
  { s with loader := { s.loader with
    role := some (if rolePin = true then .gauge else .drop)
    id := some idPins
    memory := .transaction 1
    resetAsserted := false } }

/-- The loader's transaction takes a state. -/
def State.setMemory (m : MemoryRead) (s : State) : State :=
  { s with loader := { s.loader with memory := m } }

/-- A check fails: the reason code, the flag, the mode (R170). -/
def State.failCheck (reason : Nat) (s : State) : State :=
  ({ s with loader := { s.loader with mode := .configFault, reason := reason, memory := .inactive } }).raise .configFault

/-! ### The end of loading (R172) -/

/-- The tracker's post-load values: P at Pnom, filters started, GATE's in drop role only (R4, R5, R14, R17). -/
def State.loadTracker (role : Role) (cfg : StationConfig) (s : State) : State :=
  { s with tracker := { s.tracker with
    period := cfg.periodNominal
    timed := false
    cpFilter := Filter.start s.pins.cp
    gateFilter := match role with
      | .gauge => .stopped
      | .drop => Filter.start s.pins.gate } }

/-- The controller enters WAIT_GAP (R19, R37). -/
def State.loadLineBus (s : State) : State := s.lineState .waitGap 0

/-- The Gauge Unit starts its LOT filter (R56). -/
def State.loadGaugeUnit (s : State) : State := s.setLotFilter (Filter.start s.pins.lot)

/-- The drop blocks' post-load values: held and every held copy at the level of HOLD, filters started
(R89, R112, R127, R138, R153, R167). -/
def State.loadDropBlocks (s : State) : State :=
  { s with
    engine := { held := s.pins.hold, holdFilter := .steady }
    cradles := { s.cradles with
      held := s.pins.hold
      clrA := Filter.start s.pins.clrA
      clrB := Filter.start s.pins.clrB }
    release := { s.release with held := s.pins.hold }
    tie := { s.tie with held := s.pins.hold } }

/-- The blocks of the role take the load notice (R172 step 2). -/
def State.loadRoleBlocks (role : Role) (s : State) : State :=
  match role with
  | .gauge => s.loadGaugeUnit
  | .drop => s.loadDropBlocks

/-- The Status Port's ACK filter and flash timer start (R180, R181; log 11). -/
def State.loadStatusPort (s : State) : State :=
  { s with status := { s.status with
    ackFilter := Filter.start s.pins.ack, flash := some flashTicks, flashLit := true } }

/-- ANNOUNCING begins with the record in use (R172 step 3). -/
def State.beginAnnouncing (cfg : StationConfig) (s : State) : State :=
  { s with loader := { s.loader with
    mode := .announcing, record := some cfg, announce := some announceTicks, memory := .inactive } }

/-- A good record is taken into use and a HELLO offered (R172, R173). -/
def State.takeRecord (role : Role) (cfg : StationConfig) (s : State) : State :=
  ((((((s.loadTracker role cfg).loadLineBus).loadRoleBlocks role).loadStatusPort).beginAnnouncing cfg)).offered
    (plainFrame s.stationId (.hello (roleCode role)))

/-- The record is judged against the checks of the role (R170). -/
def State.judgeRecord (role : Role) (record : List Byte) (s : State) : State :=
  if reasonOf role s.stationId record = 0 then s.takeRecord role (configOf role record)
  else s.failCheck (reasonOf role s.stationId record)

/-! ### Meanings -/

/-- RESET, in every state (R178). -/
def execReset (s : State) : Result := .next s.resetBlocks

/-- RESET_RELEASE: LOADING begins (R168, R169). -/
def execResetRelease (rolePin : Bool) (idPins : BitVec 6) (s : State) : Result :=
  .next (if s.loader.mode = .loading ∧ s.loader.resetAsserted = true then s.readStraps rolePin idPins else s)

/-- An attempt goes unacknowledged: the wait of 100 ticks, or check 1 after the tenth (R169). -/
def State.missAcknowledge (s : State) : State :=
  match s.loader.memory with
  | .transaction attempt =>
    if attempt < memoryAttempts then s.setMemory (.retryWait attempt retryTicks) else s.failCheck 1
  | .inactive => s
  | .retryWait _ _ => s

/-- MEMORY_NO_ACKNOWLEDGE (R169). -/
def execMemoryNoAcknowledge (s : State) : Result :=
  .next (if s.loader.mode = .loading then s.missAcknowledge else s)

/-- The transaction begins again after the wait (R169). -/
def State.retryRead (s : State) : State :=
  match s.loader.memory with
  | .retryWait attempt _ => s.setMemory (.transaction (attempt + 1))
  | .inactive => s
  | .transaction _ => s

/-- RETRY_WAIT_EXPIRY (R169). -/
def execRetryWaitExpiry (s : State) : Result :=
  .next (if s.loader.mode = .loading then s.retryRead else s)

/-- The record that a transaction under way has clocked in is judged (R169, R170). -/
def State.endRead (bytes : List Byte) (s : State) : State :=
  match s.loader.memory, s.loader.role with
  | .transaction _, some role => s.judgeRecord role (readRecord bytes)
  | .transaction _, none => s
  | .inactive, _ => s
  | .retryWait _ _, _ => s

/-- RECORD_READ_COMPLETE (R169, R170). -/
def execRecordReadComplete (bytes : List Byte) (s : State) : Result :=
  .next (if s.loader.mode = .loading then s.endRead bytes else s)

/-- The mode notices of a role: drop role's three blocks with a held copy (R175). -/
def modeNotices (role : Option Role) (held : Bool) : List Instr :=
  match role with
  | some .drop => [.modeNotice .cradleManager held, .modeNotice .releaseUnit held, .modeNotice .tiePort held]
  | some .gauge => []
  | none => []

/-- ANNOUNCE_TIMER_EXPIRY (R175). -/
def execAnnounceTimerExpiry (s : State) : Result :=
  .next (if s.loader.mode = .announcing ∧ s.loader.announce ≠ none then
    ({ s with loader := { s.loader with mode := .active, announce := none } }).handAll
      (modeNotices s.loader.role s.engine.held)
  else s)

/-- A block takes the mode notice: its held copy, and at the Tie Port the judgment of a start (R175). -/
def State.takeModeNotice (block : Block) (held : Bool) (s : State) : State :=
  match block with
  | .cradleManager => { s with cradles := { s.cradles with held := held } }
  | .releaseUnit => { s with release := { s.release with held := held } }
  | .tiePort => ({ s with tie := { s.tie with held := held } }).judgeTieStart
  | .lineBus => s
  | .gaugeUnit => s
  | .flightTable => s
  | .claimEngine => s

/-- MODE_NOTICE (R175). -/
def execModeNotice (block : Block) (held : Bool) (s : State) : Result :=
  let s := s.taken (.modeNotice block held)
  .next (if s.dropStarted then s.takeModeNotice block held else s)

/-- A block's entry to HALTED (R176). -/
def State.takeHaltNotice (block : Block) (held : Bool) (s : State) : State :=
  match block with
  | .lineBus => s.haltLineBus
  | .gaugeUnit => if s.loader.role = some .gauge then s.haltGaugeUnit else s
  | .flightTable => if s.loader.role = some .drop then s.haltFlightTable else s
  | .claimEngine => s
  | .cradleManager =>
    if s.loader.role = some .drop then { s with cradles := { s.cradles with held := held } } else s
  | .releaseUnit => if s.loader.role = some .drop then s.haltReleaseUnit held else s
  | .tiePort => if s.loader.role = some .drop then { s with tie := { s.tie with held := held } } else s

/-- HALT_NOTICE: handed out with the report that has made the mode HALTED (R176). -/
def execHaltNotice (block : Block) (held : Bool) (s : State) : Result :=
  let s := s.taken (.haltNotice block held)
  .next (if s.loader.mode = .halted then s.takeHaltNotice block held else s)

/-- HELLO_OUTCOME: no outcome acts (R173). -/
def execHelloOutcome (outcome : FrameOutcome) (s : State) : Result := .next (s.taken (.helloOutcome outcome))

end Sys2Proof.Machine
end

