-- ==== Sys2Proof/Machine/StatusRecord.lean ====
section
/-! DEFINITION. The status record of a snapshot, byte by byte (R179, R186). -/

namespace Sys2Proof.Machine

/-- One byte of the record. -/
def statusByte (n : Nat) : Byte := BitVec.ofNat 8 n

/-- Role: 0 not yet read, 1 gauge, 2 drop. -/
def roleByte : Option Role → Nat
  | none => 0
  | some r => roleCode r

/-- Station mode, 0 to 4. -/
def modeByte : Mode → Nat
  | .loading => 0
  | .configFault => 1
  | .announcing => 2
  | .active => 3
  | .halted => 4

/-- Tracker state, 0 to 2. -/
def trackerByte : TrackerState → Nat
  | .unsynced => 0
  | .tracking => 1
  | .stalled => 2

/-- Cradle state, 0 to 5. -/
def cradleStateByte : CradleState → Nat
  | .empty => 0
  | .opened => 1
  | .sealed => 2
  | .ready => 3
  | .tying => 4
  | .faulted => 5

/-- Cradle flags: bit 0 short, bit 1 uncertain, bit 2 stale; the bits R186 does not name are zero by the model's
choice (log 33). -/
def cradleFlags (k : Cradle) : Nat := bitOf k.short + 2 * bitOf k.uncertain + 4 * bitOf k.stale

/-- The nine bytes of a cradle. -/
def cradleBytes (k : Cradle) : List Byte :=
  let cls := match k.binding with
    | some b => b.cls
    | none => 0
  let lot := match k.binding with
    | some b => b.lot
    | none => 0
  [cradleStateByte k.state, cls, lot, k.placed, k.won, k.tentative, cradleFlags k].map statusByte
    ++ bytesOf 2 (k.bunch.getD 0).toNat

/-- Tie queue: 0 empty, 1 A, 2 B, 3 A then B, 4 B then A. -/
def tieQueueByte : List CradleId → Nat
  | [] => 0
  | .a :: [] => 1
  | .b :: [] => 2
  | .a :: _ :: _ => 3
  | .b :: _ :: _ => 4

/-- Last tie return code, 255 none. -/
def lastCodeByte : Option TieCode → Nat
  | none => 255
  | some c => tieCodeNumber c

/-- Bytes 10 to 30: the drop blocks, zero in gauge role (and before the role is read: log 27). -/
def State.dropBytes (s : State) : List Byte :=
  if s.loader.role = some .drop then
    cradleBytes s.cradles.a ++ cradleBytes s.cradles.b
      ++ [statusByte (tieQueueByte s.cradles.tieQueue), statusByte (lastCodeByte s.tie.lastCode),
          statusByte s.tie.lastFault.toNat]
  else List.replicate 21 0

/-- Bytes 31 to 33: the Gauge Unit, zero in drop role (and before the role is read: log 27). -/
def State.gaugeBytes (s : State) : List Byte :=
  if s.loader.role = some .gauge then
    [statusByte s.gauge.lotNumber, statusByte s.gauge.watch.length, statusByte (s.gauge.lastUnserved.getD 255)]
  else List.replicate 3 0

/-- The attention flags as a number, bit 0 CONFIG_FAULT; bits 11 to 15, which R186 does not name, are zero by the
model's choice (log 33). -/
def flagsNumber (f : Flags) : List FlagName → Nat
  | [] => 0
  | n :: rest => bitOf (f.get n) + 2 * flagsNumber f rest

/-- The status record, 116 bytes, byte 0 first (R186). -/
def State.statusRecord (s : State) : List Byte :=
  [statusByte (roleByte s.loader.role), statusByte s.stationId, statusByte (modeByte s.loader.mode),
   statusByte s.loader.reason, statusByte (trackerByte s.tracker.state)]
    ++ bytesOf 2 (s.tracker.slotHere.getD unsyncedSlotCode)
    ++ bytesOf 3 s.tracker.period
    ++ s.dropBytes
    ++ s.gaugeBytes
    ++ bytesOf 2 (flagsNumber s.status.flags FlagName.all)
    ++ CounterName.all.flatMap (fun n => bytesOf 2 (s.counter n).toNat)

end Sys2Proof.Machine
end

