-- ==== Sys2Proof/Machine/StatusPort.lean ====
section
/-! DEFINITION. The Status Port (chapter 10): snapshots, the ACK press, the lamp flash. -/

namespace Sys2Proof.Machine

/-- The snapshot being read is replaced. -/
def State.setSnapshot (r : Option (List Byte)) (s : State) : State :=
  { s with status := { s.status with snapshot := r } }

/-- SNAPSHOT: the whole status record is copied, in every mode and during RESET (R179). -/
def execSnapshot (s : State) : Result := .next (s.setSnapshot (some s.statusRecord))

/-- SSEL_RELEASE: the read ends (R179). -/
def execSselRelease (s : State) : Result := .next (s.setSnapshot none)

/-- The flags an ACK press leaves; a TX_FAULT it clears sets the spoil run to 0 (R28, R180; log 15). -/
def State.acknowledge (s : State) : State :=
  { s with
    status := { s.status with flags := s.flagsAfterAck, ackFilter := .held }
    bus := { s.bus with spoilRun := if s.flag .txFault = true then 0 else s.bus.spoilRun } }

/-- ACK_PRESS: one press of each assertion (R180). -/
def execAckPress (s : State) : Result :=
  .next (if s.loaded ∧ s.status.ackFilter.admitsEdge = true then s.acknowledge else s)

/-- LAMP_FLASH_TOGGLE: the flash turns over and its timer starts again (R181). -/
def execLampFlashToggle (s : State) : Result :=
  .next (if s.status.flash ≠ none then
    { s with status := { s.status with flash := some flashTicks, flashLit := !s.status.flashLit } }
  else s)

end Sys2Proof.Machine
end

