-- ==== Sys2Proof/Machine/Dispatch.lean ====
section
/-! DEFINITION. Dispatch: one arm per command, each one call of its meaning. -/

namespace Sys2Proof.Machine

/-- The effect of a command on everything but the queue of waiting commands. -/
def exec (i : Instr) (s : State) : Host.Outcome State Fault Refusal :=
  match i with
  | .reset => Sys2Proof.Machine.execReset s
  | .memoryNoAcknowledge => Sys2Proof.Machine.execMemoryNoAcknowledge s
  | .retryWaitExpiry => Sys2Proof.Machine.execRetryWaitExpiry s
  | .recordReadComplete bytes => Sys2Proof.Machine.execRecordReadComplete bytes s
  | .announceTimerExpiry => Sys2Proof.Machine.execAnnounceTimerExpiry s
  | .modeNotice block held => Sys2Proof.Machine.execModeNotice block held s
  | .haltNotice block held => Sys2Proof.Machine.execHaltNotice block held s
  | .filterInputAsserted input => Sys2Proof.Machine.execFilterInputAsserted input s
  | .filterInputReleased input => Sys2Proof.Machine.execFilterInputReleased input s
  | .cpQualification homeMark => Sys2Proof.Machine.execCpQualification homeMark s
  | .stall => Sys2Proof.Machine.execStall s
  | .filteredGateEdge => Sys2Proof.Machine.execFilteredGateEdge s
  | .idleGapComplete => Sys2Proof.Machine.execIdleGapComplete s
  | .contentionWindow => Sys2Proof.Machine.execContentionWindow s
  | .contentionLost => Sys2Proof.Machine.execContentionLost s
  | .contentionDriveFailed => Sys2Proof.Machine.execContentionDriveFailed s
  | .contentionWon => Sys2Proof.Machine.execContentionWon s
  | .spoil => Sys2Proof.Machine.execSpoil s
  | .frameSent => Sys2Proof.Machine.execFrameSent s
  | .frameHeard chars => Sys2Proof.Machine.execFrameHeard chars s
  | .frameDiscarded cause => Sys2Proof.Machine.execFrameDiscarded cause s
  | .stuckEntry => Sys2Proof.Machine.execStuckEntry s
  | .stuckExit => Sys2Proof.Machine.execStuckExit s
  | .carrierNotice slotHere => Sys2Proof.Machine.execCarrierNotice slotHere s
  | .removalRequest frame => Sys2Proof.Machine.execRemovalRequest frame s
  | .stemOutcome slot outcome => Sys2Proof.Machine.execStemOutcome slot outcome s
  | .lotOutcome lot lastSlot outcome => Sys2Proof.Machine.execLotOutcome lot lastSlot outcome s
  | .helloOutcome outcome => Sys2Proof.Machine.execHelloOutcome outcome s
  | .claimOutcome slot outcome => Sys2Proof.Machine.execClaimOutcome slot outcome s
  | .yieldOutcome slot reason outcome => Sys2Proof.Machine.execYieldOutcome slot reason outcome s
  | .gaugeCarrierArrival arrival => Sys2Proof.Machine.execGaugeCarrierArrival arrival s
  | .scanDue scanReady => Sys2Proof.Machine.execScanDue scanReady s
  | .srdyAsserted => Sys2Proof.Machine.execSrdyAsserted s
  | .scanRecordComplete record => Sys2Proof.Machine.execScanRecordComplete record s
  | .responseLimitExpiry => Sys2Proof.Machine.execResponseLimitExpiry s
  | .lotPress => Sys2Proof.Machine.execLotPress s
  | .gaugeStemHeard slot cls => Sys2Proof.Machine.execGaugeStemHeard slot cls s
  | .gaugeClaimHeard slot => Sys2Proof.Machine.execGaugeClaimHeard slot s
  | .gaugeYieldHeard slot => Sys2Proof.Machine.execGaugeYieldHeard slot s
  | .flightTableStem slot cls lot => Sys2Proof.Machine.execFlightTableStem slot cls lot s
  | .flightTableClaim slot cradle sender => Sys2Proof.Machine.execFlightTableClaim slot cradle sender s
  | .flightTableYield slot reason sender => Sys2Proof.Machine.execFlightTableYield slot reason sender s
  | .flightTableLot lot lastSlot => Sys2Proof.Machine.execFlightTableLot lot lastSlot s
  | .flightTableCarrierArrival arrival => Sys2Proof.Machine.execFlightTableCarrierArrival arrival s
  | .claimEngineCarrierArrival arrival => Sys2Proof.Machine.execClaimEngineCarrierArrival arrival s
  | .passRequest => Sys2Proof.Machine.execPassRequest s
  | .holdLevelChange asserted => Sys2Proof.Machine.execHoldLevelChange asserted s
  | .holdAssertion => Sys2Proof.Machine.execHoldAssertion s
  | .holdRelease => Sys2Proof.Machine.execHoldRelease s
  | .yieldRequest slot reason => Sys2Proof.Machine.execYieldRequest slot reason s
  | .win cradle => Sys2Proof.Machine.execWin cradle s
  | .returnCount cradle => Sys2Proof.Machine.execReturn cradle s
  | .miss cradle => Sys2Proof.Machine.execMiss cradle s
  | .place cradle => Sys2Proof.Machine.execPlace cradle s
  | .cradleCarrierArrival arrival => Sys2Proof.Machine.execCradleCarrierArrival arrival s
  | .closeLot lot => Sys2Proof.Machine.execCloseLot lot s
  | .holdNoticeCradle held => Sys2Proof.Machine.execHoldNoticeCradle held s
  | .clear cradle => Sys2Proof.Machine.execClear cradle s
  | .clearNoticeFlightTable cradle => Sys2Proof.Machine.execClearNoticeFlightTable cradle s
  | .clearNoticeRelease cradle => Sys2Proof.Machine.execClearNoticeRelease cradle s
  | .tieResult cradle code => Sys2Proof.Machine.execTieResult cradle code s
  | .uncertainMark cradle => Sys2Proof.Machine.execUncertainMark cradle s
  | .releaseHandover slot cradle period => Sys2Proof.Machine.execReleaseHandover slot cradle period s
  | .releaseCarrierStep arrival => Sys2Proof.Machine.execReleaseCarrierStep arrival s
  | .flapSettleExpiry => Sys2Proof.Machine.execFlapSettleExpiry s
  | .delayExpiry => Sys2Proof.Machine.execDelayExpiry s
  | .pulseEndExpiry => Sys2Proof.Machine.execPulseEndExpiry s
  | .confirmationWindowExpiry => Sys2Proof.Machine.execConfirmationWindowExpiry s
  | .holdNoticeReleaseUnit held => Sys2Proof.Machine.execHoldNoticeReleaseUnit held s
  | .holdNoticeTiePort held => Sys2Proof.Machine.execHoldNoticeTiePort held s
  | .queueNotice => Sys2Proof.Machine.execQueueNotice s
  | .recordShifted => Sys2Proof.Machine.execRecordShifted s
  | .tackEdge => Sys2Proof.Machine.execTackEdge s
  | .tdoneEdge => Sys2Proof.Machine.execTdoneEdge s
  | .ackLimitExpiry => Sys2Proof.Machine.execAckLimitExpiry s
  | .tieLimitExpiry => Sys2Proof.Machine.execTieLimitExpiry s
  | .statusWordComplete word => Sys2Proof.Machine.execStatusWordComplete word s
  | .snapshot => Sys2Proof.Machine.execSnapshot s
  | .sselRelease => Sys2Proof.Machine.execSselRelease s
  | .ackPress => Sys2Proof.Machine.execAckPress s
  | .lampFlashToggle => Sys2Proof.Machine.execLampFlashToggle s
  | .resetRelease rolePin idPins => Sys2Proof.Machine.execResetRelease rolePin idPins s
  | .dominantLevelInWaitGap => Sys2Proof.Machine.execDominantLevelInWaitGap s

end Sys2Proof.Machine
end

