-- ==== Sys2Proof/Machine/Step.lean ====
section
/-! DEFINITION. One step: the command at the front of the queue; with none waiting, the oldest arrival handed
over between blocks, then what time has brought, then one tick (log 1, 2). -/

namespace Sys2Proof.Machine

/-- The step with no command waiting. -/
def State.idleStep (s : State) : Host.Outcome State Fault Refusal :=
  match s.handed with
  | c :: _ => exec c s
  | [] =>
    match s.due with
    | some c => exec c s
    | none => .next s.tick

/-- One step of the block. -/
def step (s : State) : Host.Outcome State Fault Refusal :=
  match s.pending with
  | c :: rest => exec c { s with pending := rest }
  | [] => s.idleStep

/-- A command put at the front of the queue. -/
def State.withCommand (s : State) (c : Instr) : State := { s with pending := c :: s.pending }

/-- The state with the command that a table word spells at the front of its queue; no row of the table has
bits, so no word spells one and the state stays (log 9). -/
def State.withFetchWord (s : State) (nbits w : Nat) : State :=
  match decodeTableWord nbits w with
  | some c => s.withCommand c
  | none => s

end Sys2Proof.Machine
end

