-- ==== Sys2Proof/Machine/MemoryBus.lean ====
section
/-! DEFINITION. The two-wire bus to the configuration memory (R169): what the loader puts on MCL and MDA in one
attempt, condition by condition and byte by byte. -/

namespace Sys2Proof.Machine

/-- One item of a transaction on the two-wire bus (R169). -/
inductive BusItem where
  | start
  /-- a start condition given without a stop condition since the last start -/
  | repeatedStart
  | stop
  /-- a byte the loader sends, and the clock in which the memory acknowledges -/
  | send (byte : Byte)
  /-- a byte the loader clocks in, and the clock in which the loader acknowledges or leaves MDA released -/
  | read (acknowledged : Bool)
  deriving DecidableEq, Repr

/-- The memory's select code (R169). -/
def selectCode : BitVec 7 := 0x54#7

/-- The select byte: the select code in its seven most significant bits, the direction in its least
significant, 1 for read (R169). -/
def selectByte (reading : Bool) : Byte := selectCode ++ BitVec.ofBool reading

/-- The address the read begins at (R169). -/
def byteAddress : Byte := 0#8

/-- Steps 1 to 3: the select code with the write direction, the byte address, and after a repeated start the
select code with the read direction (R169). -/
def addressItems : List BusItem :=
  [.start, .send (selectByte false), .send byteAddress, .repeatedStart, .send (selectByte true)]

/-- Step 4: 128 bytes clocked in, each acknowledged but the last, then a stop condition (R169). -/
def readItems : List BusItem := List.replicate (recordBytes - 1) (.read true) ++ [.read false, .stop]

/-- The byte an attempt's memory leaves unacknowledged, if it leaves one (R169). -/
inductive MissedByte where
  | writeSelect | address | readSelect
  deriving DecidableEq, Repr

/-- What the loader gives in one attempt: the whole read, or, after a byte left unacknowledged, a stop condition
at once (R169). -/
def attemptItems : Option MissedByte → List BusItem
  | none => addressItems ++ readItems
  | some .writeSelect => addressItems.take 2 ++ [.stop]
  | some .address => addressItems.take 3 ++ [.stop]
  | some .readSelect => addressItems ++ [.stop]

/-- The levels the part leaves on its two open-drain pins, true where the pin is released. -/
structure BusLevels where
  mcl : Bool
  mda : Bool
  deriving DecidableEq, Repr

/-- One clock of MCL with a level on MDA: MDA changes while MCL is low (R169). -/
def busClock (mda : Bool) : List BusLevels := [⟨false, mda⟩, ⟨true, mda⟩]

/-- The levels of an item, half a clock each: MDA falls in a start and rises in a stop while MCL is high; bytes go
most significant bit first in eight clocks with a ninth for the acknowledge (R169). That a start condition takes two half
clocks, a repeated start and a stop condition three, is the model's choice (log 4). -/
def itemLevels : BusItem → List BusLevels
  | .start => [⟨true, true⟩, ⟨true, false⟩]
  | .repeatedStart => [⟨false, true⟩, ⟨true, true⟩, ⟨true, false⟩]
  | .stop => [⟨false, false⟩, ⟨true, false⟩, ⟨true, true⟩]
  | .send byte => (bitsOf byte).flatMap busClock ++ busClock true
  | .read acknowledged => (List.replicate 8 true).flatMap busClock ++ busClock (!acknowledged)

/-- The levels of one attempt, half a clock of MCL each (R169). -/
def attemptLevels (missed : Option MissedByte) : List BusLevels := (attemptItems missed).flatMap itemLevels

/-- Both pins released (R169, R177). -/
def BusLevels.released : BusLevels := ⟨true, true⟩

end Sys2Proof.Machine
end

