-- ==== Sys2Proof/Machine/Outputs.lean ====
section
/-! DEFINITION. What the outputs show, as functions of the state (R18, R38, R154, R169, R177, R179, R180, R181), and
the bits the part shifts out. No step reads them. -/

namespace Sys2Proof.Machine

/-! ### Release and flap (R177) -/

/-- REL: on only in ACTIVE in drop role (R177). -/
def State.relOutput (s : State) : Bool := decide s.dropActive && s.release.rel

/-- FLAP: the cradle driven; A outside ACTIVE and in gauge role (R177). -/
def State.flapOutput (s : State) : CradleId := if s.dropActive then s.release.flap else .a

/-! ### Scan, tie, memory and line drive -/

/-- A request of the scan port is outstanding, and not yet answered by SRDY (R38). -/
def requesting : ScanPort → Bool
  | .idle => false
  | .awaiting _ clocking _ => !clocking

/-- A record is being clocked in at the scan port (R38). -/
def clockingIn : ScanPort → Bool
  | .idle => false
  | .awaiting _ clocking _ => clocking

/-- SREQ: asserted in ACTIVE in gauge role while a request is outstanding and SRDY has not answered it, released in
every other mode (R38, R177). -/
def State.scanRequestOutput (s : State) : Bool := decide s.gaugeActive && requesting s.gauge.port

/-- SCLK runs: a scan record is being clocked in, in ACTIVE in gauge role; idle in every other mode (R38, R177). -/
def State.scanClockRuns (s : State) : Bool := decide s.gaugeActive && clockingIn s.gauge.port

/-- TCLK runs: a record is being shifted out or a status word in, in ACTIVE and, for a tie in progress, in HALTED
(R154, R160, R177). -/
def State.tieClockRuns (s : State) : Bool :=
  decide (s.dropStarted ∧ (s.tie.phase = .sending ∨ s.tie.phase = .reading))

/-- The record on TDAT: the ABORT with the fields of the last TIE record, or the current TIE (R156, R157). -/
def State.tieRecordOut (s : State) : Option (BitVec 40) :=
  if s.dropStarted ∧ s.tie.phase = .sending then
    (if s.tie.abortStep = true then some (tieCommandBits true (s.tie.lastRecord.getD blankTieRecord))
     else s.tie.current.map (tieCommandBits false))
  else none

/-- TDAT at bit `n` of the record being shifted out, most significant bit first; released with none (R154, R157). -/
def State.tieDataOut (s : State) (n : Nat) : Option Bool := s.tieRecordOut.map (fun r => r.getMsbD n)

/-- A transaction with the configuration memory is under way (R169). -/
def inTransaction : MemoryRead → Bool
  | .transaction _ => true
  | .inactive => false
  | .retryWait _ _ => false

/-- MCL runs: a memory transaction is under way in LOADING (R169, R177). -/
def State.memoryClockRuns (s : State) : Bool := decide (s.loader.mode = .loading) && inTransaction s.loader.memory

/-- MCL and MDA as the part leaves them `n` half clocks after an attempt's start, for the byte the memory leaves
unacknowledged in it, if any: as R169 gives in LOADING, and released with no transaction under way and in every
other mode (R169, R177). -/
def State.memoryBusOut (s : State) (missed : Option MissedByte) (n : Nat) : BusLevels :=
  if s.memoryClockRuns = true then (attemptLevels missed).getD n .released else .released

/-- Whether the part drives the line: it is contending or sending, in ANNOUNCING and ACTIVE; released in every other
mode (R22, R26, R37, R177). -/
def State.drivesLine (s : State) : Bool :=
  decide (s.offersAccepted ∧ (s.bus.state = .contending ∨ s.bus.state = .sending))

/-- The characters of the frame being contended or sent (R183). -/
def State.lineCharacters (s : State) : Option (List Byte) :=
  match s.bus.state with
  | .sending => s.bus.sending.map frameBytes
  | .contending => (s.bus.queue.find? (fun q => q.contended)).map (fun q => frameBytes q.frame)
  | .stopped => none
  | .waitGap => none
  | .idle => none
  | .receiving => none
  | .stuck => none

/-- The level the part puts on the line at bit time `n` after the start edge of the frame it contends with or sends,
true for dominant; it drives the dominant bits of the characters and releases the line for the recessive ones, and
after the frame (R18, R177). -/
def State.lineLevel (s : State) (n : Nat) : Bool :=
  match s.lineCharacters with
  | none => false
  | some chars => s.drivesLine && (chars.flatMap characterLevels).getD n false

/-! ### Status port, attention and lamps -/

/-- Bit `n` of the read on SSDO, most significant bit first; zeros after the record, released with no read
under way (R179). -/
def State.statusDataOut (s : State) (n : Nat) : Option Bool :=
  s.status.snapshot.map (fun bytes => (bytes.getD (n / 8) 0).getLsbD (7 - n % 8))

/-- ATTN (R180). -/
def State.attnOutput (s : State) : Bool := s.attention

/-- The lamp of a cradle state (R181). -/
def lampOf (lit : Bool) : CradleState → Bool
  | .ready => true
  | .tying => true
  | .faulted => lit
  | .empty => false
  | .opened => false
  | .sealed => false

/-- LAMP_A: cradle A in drop role, RUNOUT in gauge role, dark in LOADING and CONFIG_FAULT (R181). -/
def State.lampA (s : State) : Bool :=
  if s.dropLoaded then lampOf s.status.flashLit s.cradles.a.state
  else decide s.gaugeLoaded && s.flag .runout

/-- LAMP_B: cradle B in drop role, dark in gauge role (R181). -/
def State.lampB (s : State) : Bool :=
  if s.dropLoaded then lampOf s.status.flashLit s.cradles.b.state else false

end Sys2Proof.Machine
end

