-- ==== Sys2Proof/Safety.lean ====
section
/-! DEFINITION. What counts as a safe run, in the terms the statements use: the step answers a next state,
the outputs stand at their safe levels outside ACTIVE, and each block's state stays sound. -/

namespace Sys2Proof.Machine

/-- A step that neither faults nor refuses. -/
def State.progresses (s : State) : Prop := ∃ t, step s = .next t

/-- The outputs at the levels R177 gives them outside the modes in which a block drives them: REL off, FLAP at A, the
scan port released, the line, the tie port and the memory bus released. -/
def State.safeOutputs (s : State) : Prop :=
  (s.loader.mode ≠ .active → s.relOutput = false ∧ s.flapOutput = .a ∧ s.scanRequestOutput = false
    ∧ s.scanClockRuns = false)
  ∧ (s.loader.mode ≠ .announcing → s.loader.mode ≠ .active → ∀ n, s.lineLevel n = false)
  ∧ (s.loader.mode ≠ .active → s.loader.mode ≠ .halted → s.tieClockRuns = false ∧ s.tieRecordOut = none)
  ∧ (s.loader.mode ≠ .loading → ∀ missed n, s.memoryBusOut missed n = .released)

/-- A property of states that every step keeps. -/
def KeptByEveryStep (inv : State → Prop) : Prop := ∀ s t, inv s → step s = .next t → inv t

/-! ### Station modes -/

/-- The moves of the station mode, but for reset (R176, 09 section 9.1). -/
def modeMoves : Mode → Mode → Bool
  | .loading, .configFault => true
  | .loading, .announcing => true
  | .announcing, .active => true
  | .announcing, .halted => true
  | .active, .halted => true
  | a, b => a == b

/-- Every block but the loader at its reset values: R17, R37, R66, R87, R112, R138, R153, R167; the counters
0, every flag but CONFIG_FAULT clear, the panel filter and lamp timer stopped (R180, R181, R182). -/
def State.blocksAtReset (s : State) : Prop :=
  s.tracker = Tracker.reset ∧ s.bus = LineBus.reset ∧ s.gauge = GaugeUnit.reset
    ∧ s.table = FlightTable.reset ∧ s.engine = ClaimEngine.reset ∧ s.cradles = CradleManager.reset
    ∧ s.release = ReleaseUnit.reset ∧ s.tie = TiePort.reset ∧ s.status.counters = Counters.reset
    ∧ (∀ f, f ≠ FlagName.configFault → s.flag f = false)
    ∧ s.status.ackFilter = .stopped ∧ s.status.flash = none ∧ s.status.flashLit = false

/-- In LOADING and CONFIG_FAULT every block holds its reset values (R171 and the reset rules). -/
def State.idleBeforeLoad (s : State) : Prop :=
  s.loader.mode = .loading ∨ s.loader.mode = .configFault → s.blocksAtReset

/-! ### What time brings -/

/-- The recessive line, in µs, that makes an idle gap: 30 bit times of 8, 4 or 2 µs (R18, R19). -/
def gapMicros (cfg : StationConfig) : Nat := 30 * (if cfg.bitRate = 0 then 8 else if cfg.bitRate = 1 then 4 else 2)

/-- A command that time has brought: a filter's assertion has reached its width, a timer has run out, the line has been
recessive for a gap, a scan has come to its time, or the line is free for a queue with a frame. Where the event reads an
input that no command reports, the level is free (log 5). -/
inductive Brought (s : State) : Instr → Prop
  /-- R169 -/
  | retryWaitExpiry (attempt : Nat) : s.loader.mode = .loading → s.loader.memory = .retryWait attempt 0 →
    Brought s .retryWaitExpiry
  /-- R175 -/
  | announceTimerExpiry : s.loader.mode = .announcing → s.loader.announce = some 0 → Brought s .announceTimerExpiry
  /-- R1: width Wcp -/
  | cpQualification (n : Ticks) : s.loaded → s.tracker.cpFilter = .qualifying n → s.cfg.cpWidth ≤ n →
    Brought s (.cpQualification (Config.homeMarkLevel s.now))
  /-- R10 -/
  | stall : s.loaded → s.tracker.state = .tracking → s.tracker.interval = some 262143 → Brought s .stall
  /-- R19 -/
  | idleGapComplete : s.loaded → s.bus.state = .waitGap → gapMicros s.cfg ≤ s.bus.gap → Brought s .idleGapComplete
  /-- R29 -/
  | stuckExit : s.loaded → s.bus.state = .stuck → gapMicros s.cfg ≤ s.bus.gap → Brought s .stuckExit
  /-- R20 -/
  | contentionWindow : s.bus.state = .idle → s.loader.mode = .announcing ∨ s.loader.mode = .active →
    s.flag .txFault = false → s.bus.queue ≠ [] → Brought s .contentionWindow
  /-- R180: 2,000 ticks -/
  | ackPress (n : Ticks) : s.loaded → s.status.ackFilter = .qualifying n → 2000 ≤ n → Brought s .ackPress
  /-- R181 -/
  | lampFlashToggle : s.loaded → s.status.flash = some 0 → Brought s .lampFlashToggle
  /-- R56: 2,000 ticks -/
  | lotPress (n : Ticks) : s.gaugeLoaded → s.gauge.lotFilter = .qualifying n → 2000 ≤ n → Brought s .lotPress
  /-- R39 -/
  | responseLimitExpiry (timer : Ticks) (clocking : Bool) (position : Option Nat) : s.gaugeLoaded →
    s.gauge.port = .awaiting timer clocking position → s.cfg.responseLimit ≤ timer → Brought s .responseLimitExpiry
  /-- R42: floor(P × (Fs + i × Fd) / 256) ticks after the window's pulse -/
  | scanDue (w : MeasureWindow) : s.gaugeLoaded → s.gauge.window = some w → w.nextScan < s.cfg.scanCount →
    w.period * (s.cfg.scanStart + w.nextScan * s.cfg.scanStep) / 256 ≤ w.elapsed →
    Brought s (.scanDue (Config.scanReadyLevel s.now))
  /-- R4: width Wg -/
  | filteredGateEdge (n : Ticks) : s.dropLoaded → s.tracker.gateFilter = .qualifying n → s.cfg.gateWidth ≤ n →
    Brought s .filteredGateEdge
  /-- R127: 2,000 ticks -/
  | clear (c : CradleId) (n : Ticks) : s.dropLoaded → s.clearFilter c = .qualifying n → 2000 ≤ n → Brought s (.clear c)
  /-- R89: 2,000 ticks -/
  | holdAssertion (n : Ticks) : s.dropLoaded → s.engine.holdFilter = .changing n → 2000 ≤ n → s.engine.held = false →
    Brought s .holdAssertion
  /-- R89: 2,000 ticks -/
  | holdRelease (n : Ticks) : s.dropLoaded → s.engine.holdFilter = .changing n → 2000 ≤ n → s.engine.held = true →
    Brought s .holdRelease
  /-- R143 -/
  | flapSettleExpiry : s.dropLoaded → s.release.settle = some 0 → Brought s .flapSettleExpiry
  /-- R145 -/
  | delayExpiry : s.dropLoaded → s.release.delayed ≠ none → s.release.delayTimer = some 0 → Brought s .delayExpiry
  /-- R145 -/
  | pulseEndExpiry : s.dropLoaded → s.release.rel = true → s.release.pulseTimer = some 0 → Brought s .pulseEndExpiry
  /-- R146 -/
  | confirmationWindowExpiry (w : ConfirmationWindow) : s.dropLoaded → s.release.window = some w → w.left = 0 →
    Brought s .confirmationWindowExpiry
  /-- R157: a record shifts out in four ticks (log 2) -/
  | recordShifted : s.dropLoaded → s.tie.phase = .sending → s.tie.shift = some 0 → Brought s .recordShifted
  /-- R156, R158 -/
  | ackLimitExpiry : s.dropLoaded → s.tie.phase = .awaitAck → s.tie.limit = some 0 → Brought s .ackLimitExpiry
  /-- R159 -/
  | tieLimitExpiry : s.dropLoaded → s.tie.phase = .tying → s.tie.limit = some 0 → Brought s .tieLimitExpiry

/-- A width filter one tick on: an assertion being qualified has lasted one tick more, up to the width (R1). -/
def widened (width : Ticks) (f : Filter) : Filter :=
  match f with
  | .qualifying n => .qualifying (min (n + 1) width)
  | .stopped => .stopped
  | .released => .released
  | .held => .held

/-- A timer that counts down, one tick on. -/
def lowered (t : Option Ticks) : Option Ticks := t.map (fun n => n - 1)

/-! ### The configuration record -/

/-- Whether a record fails a check of R170, from its bytes `b`, its pairs of bytes `w`, its CRC register and the
strapped id, for the checks of both roles and those of the role. -/
def recordFails (role : Role) (id : Nat) (crc : Word16) (b w : Nat → Nat) : Nat → Prop
  | 2 => crc ≠ 0#16
  | 3 => b 0 ≠ 1
  | 4 => id = 0 ∨ id = 63
  | 5 => w 2 < 64 ∨ 1023 < w 2
  | 6 => b 1 ≠ 0 ∧ b 1 ≠ 1 ∧ b 1 ≠ 2
  | 7 => w 4 < 20 ∨ 2000 < w 4 ∨ w 6 < 20 ∨ 2000 < w 6 ∨ w 6 < w 4
  | 8 => b 8 = 0 ∨ b 9 = 0
  | 9 => role = .drop ∧ (w 16 < 1 ∨ 383 < w 16 ∨ w 2 ≤ w 16)
  | 10 => role = .drop ∧ (b 18 < 1 ∨ 15 < b 18 ∨ w 16 ≤ b 18)
  | 11 => role = .drop ∧ (b 32 < 1 ∨ 4 < b 32
      ∨ (∃ i j, i < j ∧ j < b 32 ∧ b (33 + 4 * i) = b (33 + 4 * j))
      ∨ (∃ i, i < b 32 ∧ (15 < b (33 + 4 * i) ∨ b (34 + 4 * i) < 1 ∨ 40 < b (34 + 4 * i)
        ∨ b (35 + 4 * i) < 1 ∨ b (34 + 4 * i) < b (35 + 4 * i) ∨ (b (36 + 4 * i) ≠ 0 ∧ b (36 + 4 * i) ≠ 1)))
      ∨ 4095 < w 22)
  | 12 => role = .drop ∧ (b 19 < 1 ∨ 63 < b 19)
  | 13 => role = .drop ∧ (b 24 < 1 ∨ 100 < b 24 ∨ b 25 < 1 ∨ b 24 < b 25 ∨ 50 < b 26)
  | 14 => role = .drop ∧ (b 29 = 0 ∨ 100 < b 29 ∨ b 28 = 0 ∨ b 30 = 0 ∨ b 31 = 0)
  | 15 => role = .drop ∧ 3 < b 20
  | 16 => role = .drop ∧ (b 21 < 1 ∨ 63 < b 21)
  | 17 => role = .gauge ∧ (w 64 < 16 ∨ 256 < w 64)
  | 18 => role = .gauge ∧ (b 66 < 20 ∨ 100 < b 66)
  | 19 => role = .gauge ∧ (b 69 < 1 ∨ 15 < b 69 ∨ b 70 < 1 ∨ b 69 < b 70)
  | 20 => role = .gauge ∧ 15 < b 71
  | 21 => role = .gauge ∧ 255 < b 72 + (b 69 - 1) * b 73
  | 22 => role = .gauge ∧ (b 78 < 1 ∨ 15 < b 78
      ∨ (∃ i, i < b 78 ∧ (w (79 + 2 * i) = 0 ∨ 2047 < w (79 + 2 * i)))
      ∨ (∃ i, i + 1 < b 78 ∧ w (81 + 2 * i) ≤ w (79 + 2 * i)))
  | 23 => role = .gauge ∧ (b 75 < 1 ∨ 15 < b 75)
  | 24 => role = .gauge ∧ (w 76 < 2 ∨ 1023 < w 76 ∨ w 2 ≤ w 76)
  | 25 => role = .gauge ∧ b 74 = 0
  | _ => False

/-- The record in use holds the fields of R184 in the units of R172, from the bytes `b` and the pairs of bytes `w`. -/
def recordTaken (role : Role) (b w : Nat → Nat) (cfg : StationConfig) : Prop :=
  cfg.bitRate = b 1 ∧ cfg.chainLength = w 2 ∧ cfg.periodMin = 100 * w 4 ∧ cfg.periodNominal = 100 * w 6
  ∧ cfg.cpWidth = 10 * b 8 ∧ cfg.gateWidth = 10 * b 9
  ∧ (role = .drop →
    cfg.depth = w 16 ∧ cfg.claimHorizon = b 18 ∧ cfg.secondaryDepth = b 19 ∧ cfg.flapGap = b 20
    ∧ cfg.yieldLifetime = b 21 ∧ cfg.idleLimit = w 22 ∧ cfg.pulseWidth = 100 * b 24
    ∧ cfg.pulseMinimum = 100 * b 25 ∧ cfg.releaseGuard = 100 * b 26 ∧ cfg.releaseFraction = b 27
    ∧ cfg.settleTime = 100 * b 28 ∧ cfg.confirmTime = 500 * b 29 ∧ cfg.ackLimit = 100 * b 30
    ∧ cfg.tieLimit = 10000 * b 31
    ∧ cfg.services = (List.range (b 32)).map (fun i =>
      ⟨b (33 + 4 * i), b (34 + 4 * i), b (35 + 4 * i), decide (b (36 + 4 * i) = 1)⟩))
  ∧ (role = .gauge →
    cfg.beams = w 64 ∧ cfg.beamPitch = b 66 ∧ cfg.gripOffset = w 67 ∧ cfg.scanCount = b 69
    ∧ cfg.validMinimum = b 70 ∧ cfg.spreadLimit = b 71 ∧ cfg.scanStart = b 72 ∧ cfg.scanStep = b 73
    ∧ cfg.responseLimit = 10 * b 74 ∧ cfg.stemLifetime = b 75 ∧ cfg.runOutHorizon = w 76
    ∧ cfg.classBounds = (List.range (b 78)).map (fun i => w (79 + 2 * i)))

/-! ### The tie command record -/

/-- The 40 bits of a tie command record: kind, cradle, short, uncertain, class, lot, six zeros, count, bunch number
(R133, R185). -/
def tieBits (abort : Bool) (r : TieRecord) : BitVec 40 :=
  BitVec.ofBool abort ++ BitVec.ofBool (decide (r.cradle = .b)) ++ BitVec.ofBool r.short ++ BitVec.ofBool r.uncertain
    ++ BitVec.ofNat 4 r.cls ++ BitVec.ofNat 4 r.lot ++ 0#6 ++ BitVec.ofNat 6 r.count ++ r.bunch

/-! ### Carrier tracking -/

/-- The ranges of the record that the tracker rests on (checks 5 and 7 of R170, in ticks). -/
def trackable (cfg : StationConfig) : Prop :=
  64 ≤ cfg.chainLength ∧ cfg.chainLength ≤ 1023 ∧ cfg.periodMin ≤ cfg.periodNominal ∧ cfg.periodNominal ≤ 200000

/-- Past loading a record is in use, P lies from Pmin to 262,143, slot here is below L and has a value
unless UNSYNCED, the home count is at most 2L (R7, R12, R13). -/
def State.trackerSound (s : State) : Prop :=
  s.idleBeforeLoad ∧ (s.loaded →
    (∃ cfg, s.loader.record = some cfg ∧ trackable cfg)
    ∧ s.cfg.periodMin ≤ s.tracker.period ∧ s.tracker.period ≤ stallLimit
    ∧ (s.tracker.slotHere = none ↔ s.tracker.state = .unsynced)
    ∧ (∀ slot, s.tracker.slotHere = some slot → slot < s.cfg.chainLength)
    ∧ (∀ n, s.tracker.interval = some n → n ≤ stallLimit)
    ∧ s.tracker.homeCount ≤ 2 * s.cfg.chainLength)

/-! ### The transmit queue -/

/-- The transmit queue: at most 16 frames, in descending order of contention value, no two CLAIMs for one
slot (R30). -/
def State.queueSound (s : State) : Prop :=
  s.bus.queue.length ≤ queueCapacity
    ∧ s.bus.queue.Pairwise (fun x y => y.frame.value ≤ x.frame.value)
    ∧ (s.bus.queue.filterMap (fun q => claimSlot q.frame.body)).Nodup

/-! ### The gauge -/

/-- The issue watch holds at most 128 entries, no slot twice; the lost run is at most 8 (R41, R59). -/
def State.watchSound (s : State) : Prop :=
  s.gauge.watch.length ≤ watchCapacity ∧ (s.gauge.watch.map (fun e => e.slot)).Nodup
    ∧ s.gauge.lostRun ≤ lostLimit

/-! ### The flight table -/

/-- No slot twice in the flight table; at most four lot-close records, one for each lot (R67, R80). -/
def State.tableSound (s : State) : Prop :=
  (s.table.entries.map (fun e => e.slot)).Nodup
    ∧ s.table.lotCloses.length ≤ lotCloseCapacity ∧ (s.table.lotCloses.map (fun r => r.lot)).Nodup

/-! ### Cradles -/

/-- The tie queue holds each READY or TYING cradle exactly once and no other; only its head is TYING
(R132). -/
def State.tieQueueSound (s : State) : Prop :=
  s.cradles.tieQueue.Nodup
    ∧ (∀ c, c ∈ s.cradles.tieQueue ↔ ((s.cradle c).state = .ready ∨ (s.cradle c).state = .tying))
    ∧ (∀ c, (s.cradle c).state = .tying → s.cradles.tieQueue.head? = some c)

/-- Every service entry of the record in use has a bunch size of at least 1 (check 11 of R170). -/
def State.servicesSound (s : State) : Prop := ∀ e ∈ s.cfg.services, 1 ≤ e.bunchSize

/-- placed + won + tentative never exceeds the bunch size of the class bound to, and an EMPTY cradle has all
three at zero and no class or lot (R113). -/
def State.cradlesSound (s : State) : Prop :=
  s.idleBeforeLoad ∧ s.servicesSound ∧ ∀ c,
    ((s.cradle c).state = .empty → (s.cradle c).placed = 0 ∧ (s.cradle c).won = 0
      ∧ (s.cradle c).tentative = 0 ∧ (s.cradle c).binding = none)
    ∧ ((s.cradle c).state ≠ .empty → (s.cradle c).placed + (s.cradle c).won + (s.cradle c).tentative
      ≤ s.bunchSize (s.cradle c))

/-- The idle close of a cradle is judged, in an OPEN cradle with the due mark set and nothing outstanding: READY at the
short minimum or above, else stale. Any other cradle stays (R122). -/
def State.idleCloseJudged (s : State) (c : CradleId) (t : State) : Prop :=
  ((s.cradle c).state ≠ .opened ∨ (s.cradle c).idleDue = false ∨ (s.cradle c).won ≠ 0 ∨ (s.cradle c).tentative ≠ 0 →
    t = s)
  ∧ ((s.cradle c).state = .opened → (s.cradle c).idleDue = true → (s.cradle c).won = 0 → (s.cradle c).tentative = 0 →
    (s.shortMinimum (s.cradle c) ≤ (s.cradle c).placed → t = s.enterReady c)
    ∧ ((s.cradle c).placed < s.shortMinimum (s.cradle c) →
      t = (s.setCradle c { s.cradle c with idleDue := false, stale := true }).raise .stale))

/-- A cradle at a carrier arrival with held clear: an OPEN one counts up to 4095, and the arrival that brings the count
to the limit sets the due mark and judges the close (R121; with a limit of 1, log 35). -/
def State.idleCounted (s : State) (c : CradleId) (t : State) : Prop :=
  ∀ k n, k = s.cradle c → n = min (k.idleCount + 1) 4095 →
    (k.state ≠ .opened → t = s)
    ∧ (k.state = .opened → n ≠ s.cfg.idleLimit ∨ s.cfg.idleLimit ≤ k.idleCount →
      t = s.setCradle c { k with idleCount := n })
    ∧ (k.state = .opened → n = s.cfg.idleLimit → k.idleCount < s.cfg.idleLimit →
      (s.setCradle c { k with idleCount := n, idleDue := true }).idleCloseJudged c t)

/-- A cradle at the close of a lot: one of that lot that is OPEN becomes READY with nothing outstanding and SEALED with
pending CLOSE otherwise, one SEALED with nothing pending takes pending CLOSE; any other stays (R124). -/
def State.lotClosed (s : State) (lotNo : Nat) (c : CradleId) (t : State) : Prop :=
  ∀ k, k = s.cradle c →
    ((∀ b, k.binding = some b → b.lot ≠ lotNo) → t = s)
    ∧ (∀ b, k.binding = some b → b.lot = lotNo →
      (k.state = .opened → k.won = 0 → k.tentative = 0 → t = s.enterReady c)
      ∧ (k.state = .opened → k.won ≠ 0 ∨ k.tentative ≠ 0 → t = s.setCradle c { k with
          state := .sealed, pending := .close, idleDue := false, stale := false })
      ∧ (k.state = .sealed → k.pending = .none → t = s.setCradle c { k with
          pending := .close, idleDue := false, stale := false })
      ∧ ((k.state = .sealed ∧ k.pending ≠ .none) ∨ k.state = .empty ∨ k.state = .ready ∨ k.state = .tying
          ∨ k.state = .faulted → t = s))

/-! ### The release unit -/

/-- While a window is open FLAP names its cradle (R144); a pulse never has more than W left (R145); a
record in DELAY has its timer and a width of at most W (R140). -/
def State.releaseSound (s : State) : Prop :=
  s.idleBeforeLoad
    ∧ (∀ w, s.release.window = some w → s.release.flap = w.cradle)
    ∧ (∀ n, s.release.pulseTimer = some n → n ≤ s.cfg.pulseWidth)
    ∧ (s.release.rel = true ↔ s.release.pulseTimer ≠ none)
    ∧ (∀ r, s.release.delayed = some r → r.width ≤ s.cfg.pulseWidth)
    ∧ (s.release.delayed = none ↔ s.release.delayTimer = none)

/-! ### Offers to the transmit queue -/

/-- What an offer touches: the queue, the arrivals handed over, the frames-dropped counter. -/
structure QueueView where
  queue : List QueuedFrame
  handed : List Instr
  dropped : Word16

/-- What an offer finds. -/
def State.queueView (s : State) : QueueView := ⟨s.bus.queue, s.handed, s.counter .framesDropped⟩

/-- R31 in ANNOUNCING and ACTIVE, for a frame that is no CLAIM: it joins a queue with room; into a full queue it
evicts the last CLAIM not being contended, which gives its owner EVICTED, or else it is dropped. The place among the
queued frames is that of the queue's order (R30). -/
def OfferTaken (new : QueuedFrame) (u v : QueueView) : Prop :=
  (u.queue.length < 16 → v.queue.Perm (new :: u.queue) ∧ v.handed = u.handed ∧ v.dropped = u.dropped)
  ∧ (16 ≤ u.queue.length → (∀ q ∈ u.queue, q.contended = true ∨ claimSlot q.frame.body = none) →
    v.queue = u.queue ∧ v.handed = u.handed ∧ v.dropped = countUp u.dropped)
  ∧ (∀ before q after slot, 16 ≤ u.queue.length → u.queue = before ++ q :: after → q.contended = false →
    claimSlot q.frame.body = some slot →
    (∀ x ∈ after, x.contended = true ∨ claimSlot x.frame.body = none) →
    (∀ x ∈ before ++ after, claimSlot x.frame.body ≠ some slot) →
    v.queue.Perm (new :: (before ++ after)) ∧ v.handed = u.handed ++ [.claimOutcome slot .evicted]
      ∧ v.dropped = countUp u.dropped)

/-- Offers taken one after the other. -/
def OffersTaken : List QueuedFrame → QueueView → QueueView → Prop
  | [], u, v => v = u
  | new :: rest, u, v => ∃ m, OfferTaken new u m ∧ OffersTaken rest m v

/-! ### A measure window's end -/

/-- The LOT that a press taken with a last stem slot offers: it names that slot, or slot here, and is left out while
UNSYNCED with no last stem slot (R57). -/
def State.lotOffer (s : State) (last : Option Slot) : List QueuedFrame :=
  match last, s.tracker.state with
  | some slot, _ => [⟨⟨16384 + s.stationId, .lot s.gauge.lotNumber slot⟩, none, 0, false, none⟩]
  | none, .unsynced => []
  | none, _ => [⟨⟨16384 + s.stationId, .lot s.gauge.lotNumber (s.tracker.slotHere.getD 0)⟩, none, 0, false, none⟩]

/-- The STEM that the evaluation of a window offers: none for an empty carrier, nor while HOLD is asserted
(R47, R53). -/
def State.stemOffer (s : State) (slot : Slot) : Evaluation → List QueuedFrame
  | .empty => []
  | .stem cls length reason =>
    if s.pins.hold = true then []
    else [⟨⟨49152 + s.stationId, .stem slot cls length s.gauge.lotNumber reason⟩, some s.cfg.stemLifetime, 0, false,
      none⟩]

/-- The last stem slot once a window has been evaluated (R53). -/
def State.lastStemAfter (s : State) (slot : Slot) : Evaluation → Option Slot
  | .empty => s.gauge.lastStemSlot
  | .stem _ _ _ => some slot

/-- The offers of a window's close, in order: its STEM, then the LOT of a pending press (R44, R53, R57). -/
def State.windowOffers (s : State) (slot : Slot) (e : Evaluation) : List QueuedFrame :=
  s.stemOffer slot e ++ (if s.gauge.pendingPress = true then s.lotOffer (s.lastStemAfter slot e) else [])

/-- The reject reason that an evaluation counts: that of a stem offered (R53). -/
def State.countedReject (s : State) : Evaluation → Option RejectReason
  | .empty => none
  | .stem _ _ reason => if s.pins.hold = true then none else some reason

/-- What the close of a window for a slot leaves in the lot fields and the counters (R47, R53, R57). -/
def State.windowClosed (s : State) (slot : Slot) (e : Evaluation) (t : State) : Prop :=
  t.gauge.pendingPress = false
  ∧ t.gauge.lotNumber = (if s.gauge.pendingPress = true then (s.gauge.lotNumber + 1) % 16 else s.gauge.lotNumber)
  ∧ t.gauge.lastStemSlot = (if s.gauge.pendingPress = true then none else s.lastStemAfter slot e)
  ∧ t.counter .empties = (if e = .empty then countUp (s.counter .empties) else s.counter .empties)
  ∧ t.counter .heldStems = (if e ≠ .empty ∧ s.pins.hold = true then countUp (s.counter .heldStems)
      else s.counter .heldStems)
  ∧ t.counter .shortRejects = (if s.countedReject e = some .short then countUp (s.counter .shortRejects)
      else s.counter .shortRejects)
  ∧ t.counter .unmeasuredRejects = (if s.countedReject e = some .unmeasured
      then countUp (s.counter .unmeasuredRejects) else s.counter .unmeasuredRejects)
  ∧ t.counter .unsteadyRejects = (if s.countedReject e = some .unsteady then countUp (s.counter .unsteadyRejects)
      else s.counter .unsteadyRejects)

/-- The counters that the close of a window may move. -/
def windowCounters : List CounterName :=
  [.framesDropped, .empties, .heldStems, .shortRejects, .unmeasuredRejects, .unsteadyRejects]

/-! ### Withdrawals of claims -/

/-- Where a CLAIM stands when its withdrawal asks for it (R30, R33). -/
inductive ClaimPlace where
  | queued | contended
  /-- being sent, or its end not yet taken by the Flight Table (log 28) -/
  | transmitted
  | ended
  deriving DecidableEq, Repr

/-- Where the CLAIM for a slot stands. -/
def State.claimPlace (s : State) (slot : Slot) : ClaimPlace :=
  match s.bus.queue.find? (fun q => claimSlot q.frame.body == some slot) with
  | some q => if q.contended = true then .contended else .queued
  | none =>
    if s.bus.sending.any (fun f => claimSlot f.body == some slot) = true
        ∨ s.handed.any (isOwnEnd s.stationId slot) = true then .transmitted
    else .ended

/-- The state a withdrawal's target gives an entry, none for removal (R74). -/
def WithdrawalTarget.entryState : WithdrawalTarget → Option EntryState
  | .unclaimed => some .unclaimed
  | .other claimant => some (.other claimant)
  | .released => some .released
  | .removal => none

/-- A withdrawal that waits for the end of a contention: the first target stands, a later reason replaces an earlier
one (R30, R74; log 16). -/
def waitingWithdrawal (reason : Option YieldReason) : Option Withdrawal → Withdrawal
  | none => ⟨.unclaimed, reason⟩
  | some first => ⟨first.target, reason.or first.reason⟩

/-- What a withdrawal with target UNCLAIMED and a reason makes of a TENTATIVE entry's state: carried out at once with
the CLAIM queued or ended, waiting while it is contended or transmitted (R74; log 16, log 28). -/
def State.withdrawnState (s : State) (reason : Option YieldReason) (slot : Slot) (c : CradleId)
    (pendingYield : Option YieldReason) (asked : Option Withdrawal) : EntryState :=
  match s.claimPlace slot with
  | .queued => .unclaimed
  | .ended => .unclaimed
  | .contended => .tentative c pendingYield (some (waitingWithdrawal reason asked))
  | .transmitted => .tentative c (reason.or pendingYield) asked

/-- Whether the withdrawal of a TENTATIVE entry is carried out at once (R74). -/
def State.withdrawnAtOnce (s : State) (slot : Slot) : Bool :=
  s.claimPlace slot == .queued || s.claimPlace slot == .ended

/-- Whether an entry is TENTATIVE. -/
def FlightEntry.isTentative (e : FlightEntry) : Bool :=
  match e.state with
  | .tentative _ _ _ => true
  | .unclaimed => false
  | .mine _ => false
  | .other _ => false
  | .yielded => false
  | .released => false

/-- A TENTATIVE entry whose withdrawal waits for the end of its CLAIM's contention (R30, R74; log 16). -/
structure WaitingClaim where
  slot : Slot
  cradle : CradleId
  pendingYield : Option YieldReason
  withdrawal : Withdrawal

/-- An entry's waiting withdrawal, if it has one. -/
def FlightEntry.waiting (e : FlightEntry) : Option WaitingClaim :=
  match e.state with
  | .tentative c pendingYield (some w) => some ⟨e.slot, c, pendingYield, w⟩
  | .tentative _ _ none => none
  | .unclaimed => none
  | .mine _ => none
  | .other _ => none
  | .yielded => none
  | .released => none

/-- The withdrawal that waits for the end of a frame's contention: that of the entry for a CLAIM's slot. -/
def State.waitingFor (s : State) (body : FrameBody) : Option WaitingClaim :=
  (claimSlot body).bind (fun slot => (s.table.entries.find? (fun e => e.slot == slot)).bind FlightEntry.waiting)

/-- What the end of a contention that takes its frame out of the queue leaves of the table, the arrivals and the count
of claims withdrawn: a waiting withdrawal is carried out with its target and RETURN (R74). -/
def State.waitingCarriedOut (s : State) (body : FrameBody) (handed : List Instr) (t : State) : Prop :=
  (s.waitingFor body = none →
    t.table = s.table ∧ t.handed = handed ∧ t.counter .claimsWithdrawn = s.counter .claimsWithdrawn)
  ∧ (∀ w, s.waitingFor body = some w →
    t.table = { s.table with entries := s.table.entries.filterMap (fun e =>
      if e.slot = w.slot then w.withdrawal.target.entryState.map (fun st => { e with state := st }) else some e) }
    ∧ t.handed = handed ++ [.returnCount w.cradle]
    ∧ t.counter .claimsWithdrawn = countUp (s.counter .claimsWithdrawn))

/-- What a contention won, or failed at its drive, leaves of the table: a waiting withdrawal is answered "in
transmission" and its reason becomes the pending yield (R30, R74). The answer to the held request is
`State.heldRequestAnswered`. -/
def State.waitingTransmitted (s : State) (body : FrameBody) (t : State) : Prop :=
  (s.waitingFor body = none → t.table = s.table)
  ∧ (∀ w, s.waitingFor body = some w →
    t.table = { s.table with entries := s.table.entries.map (fun e => if e.slot = w.slot
      then { e with state := .tentative w.cradle (w.withdrawal.reason.or w.pendingYield) none } else e) })

/-- A removal request that was held is answered for the frame it names, whatever has been asked for since; with none
held the answer given last stands (R30, R33; log 16). -/
def State.heldRequestAnswered (s : State) (answer : RemovalAnswer) (t : State) : Prop :=
  t.bus.removalHeld = none
  ∧ t.bus.removalAnswer = (match s.bus.removalHeld with
      | none => s.bus.removalAnswer
      | some body => some ⟨body, answer⟩)

/-- What a lost contention leaves of the queue, the table, the arrivals, two counters and a held removal request, for a
frame `q` contended between others: it keeps its place, unless a held event takes it out with its outcome (R22, R30, R33,
R74). -/
def State.contentionLostFor (s : State) (before : List QueuedFrame) (q : QueuedFrame) (after : List QueuedFrame)
    (t : State) : Prop :=
  t.bus.queue = before ++ (if q.heldEvent = none then [{ q with contended := false }] else []) ++ after
  ∧ t.counter .framesDropped = (if q.heldEvent = some .expired then countUp (s.counter .framesDropped)
      else s.counter .framesDropped)
  ∧ (q.heldEvent = none → t.table = s.table ∧ t.handed = s.handed
    ∧ t.counter .claimsWithdrawn = s.counter .claimsWithdrawn
    ∧ t.bus.removalHeld = s.bus.removalHeld ∧ t.bus.removalAnswer = s.bus.removalAnswer)
  ∧ (q.heldEvent = some .expired → s.heldRequestAnswered .notQueued t
    ∧ s.waitingCarriedOut q.frame.body (s.handed ++ [outcomeArrival q.frame.body .expired]) t)
  ∧ (q.heldEvent = some .removed → s.heldRequestAnswered .removed t
    ∧ s.waitingCarriedOut q.frame.body (s.handed ++ [outcomeArrival q.frame.body .removed]) t)

/-- The transmit queue once the CLAIMs for some slots have been asked for: those not being contended have left, one
being contended holds the removal unless it holds an earlier event (R30, R33). -/
def removeClaims (slots : List Slot) (queue : List QueuedFrame) : List QueuedFrame :=
  (queue.filter (fun q => q.contended || !slots.any (fun slot => claimSlot q.frame.body == some slot))).map
    (fun q => if slots.any (fun slot => claimSlot q.frame.body == some slot) = true
      then { q with heldEvent := some (q.heldEvent.getD .removed) } else q)

/-- What giving back leaves of an entry: a MINE stem RELEASED, a TENTATIVE claim withdrawn (R104, R129). -/
def State.givenBackState (s : State) (reason : YieldReason) (e : FlightEntry) : FlightEntry :=
  match e.state with
  | .tentative c pendingYield asked => { e with state := s.withdrawnState (some reason) e.slot c pendingYield asked }
  | .mine _ => { e with state := .released }
  | .unclaimed => e
  | .other _ => e
  | .yielded => e
  | .released => e

/-- The operations that giving back an entry asks for: MISS and a YIELD for a MINE stem, RETURN for a claim
withdrawn at once (R73, R74, R75). -/
def State.givenBackOperations (s : State) (reason : YieldReason) (e : FlightEntry) : List Instr :=
  match e.state with
  | .tentative c _ _ => if s.withdrawnAtOnce e.slot = true then [.returnCount c] else []
  | .mine c => [.miss c, .yieldRequest e.slot reason]
  | .unclaimed => []
  | .other _ => []
  | .yielded => []
  | .released => []

/-- What giving back the entries that a test picks leaves of the table, the queue, the arrivals and the count of
claims withdrawn (R74, R75, R104, R129). -/
def State.gaveBack (s : State) (reason : YieldReason) (picked : FlightEntry → Bool) (handed : List Instr)
    (t : State) : Prop :=
  t.table = { s.table with entries := s.table.entries.map (fun e =>
    if picked e = true then s.givenBackState reason e else e) }
  ∧ t.bus = { s.bus with
      queue := removeClaims (((s.table.entries.filter picked).filter FlightEntry.isTentative).map
        (fun e => e.slot)) s.bus.queue
      removalHeld := t.bus.removalHeld, removalAnswer := t.bus.removalAnswer }
  ∧ t.handed = handed ++ (s.table.entries.filter picked).flatMap (s.givenBackOperations reason)
  ∧ t.counter .claimsWithdrawn = countUp^[(s.table.entries.filter picked).countP
      (fun e => e.isTentative && s.withdrawnAtOnce e.slot)] (s.counter .claimsWithdrawn)
  ∧ (∀ n, n ≠ .claimsWithdrawn → t.counter n = s.counter n)
  ∧ t.status = { s.status with counters := t.status.counters }

/-! ### Carrier arrivals at the flight table -/

/-- What the claim deadline leaves of an entry (R77). -/
def State.deadlineState (s : State) (e : FlightEntry) : FlightEntry :=
  match e.state with
  | .tentative c pendingYield asked => { e with state := s.withdrawnState none e.slot c pendingYield asked }
  | .unclaimed => e
  | .mine _ => e
  | .other _ => e
  | .yielded => e
  | .released => e

/-- The operations of the claim deadline for an entry: RETURN for a claim withdrawn at once (R74, R77). -/
def State.deadlineOperations (s : State) (e : FlightEntry) : List Instr :=
  match e.state with
  | .tentative c _ _ => if s.withdrawnAtOnce e.slot = true then [.returnCount c] else []
  | .unclaimed => []
  | .mine _ => []
  | .other _ => []
  | .yielded => []
  | .released => []

/-- What an entry's pass event hands over: a release record of a MINE stem, RETURN for a TENTATIVE claim (R77,
R78). -/
def passOperations (period : Ticks) (e : FlightEntry) : List Instr :=
  match e.state with
  | .tentative c _ _ => [.returnCount c]
  | .mine c => [.releaseHandover e.slot c period]
  | .unclaimed => []
  | .other _ => []
  | .yielded => []
  | .released => []

/-- What an entry's removal at a slip hands over: MISS and a YIELD VOID for a MINE stem, RETURN for a TENTATIVE
claim (R79). -/
def slipOperations (e : FlightEntry) : List Instr :=
  match e.state with
  | .tentative c _ _ => [.returnCount c]
  | .mine c => [.miss c, .yieldRequest e.slot .void]
  | .unclaimed => []
  | .other _ => []
  | .yielded => []
  | .released => []

/-- What a carrier arrival that removes the entries `gone` picks and judges the claim deadline among the rest leaves
of the table's entries, the queue, the arrivals (`operations` for an entry removed) and the count of claims
withdrawn (R74, R77, R79). The lot closes follow. -/
def State.arrivalTaken (s : State) (slotHere : Slot) (gone : FlightEntry → Bool)
    (operations : FlightEntry → List Instr) (handed : List Instr) (entries : List FlightEntry) (after : List Instr)
    (t : State) : Prop :=
  ∀ near : FlightEntry → Bool,
    (∀ e, near e = (!gone e && decide (1 ≤ s.remAt slotHere e.slot ∧ s.remAt slotHere e.slot ≤ s.cfg.claimHorizon))) →
    entries = s.table.entries.filterMap (fun e =>
      if gone e = true then none else some (if near e = true then s.deadlineState e else e))
    ∧ t.bus = { s.bus with
        queue := removeClaims ((s.table.entries.filter (fun e => (gone e || near e) && e.isTentative)).map
          (fun e => e.slot)) s.bus.queue
        removalHeld := t.bus.removalHeld, removalAnswer := t.bus.removalAnswer }
    ∧ after = handed ++ (s.table.entries.filter gone).flatMap operations
        ++ (s.table.entries.filter near).flatMap s.deadlineOperations
    ∧ t.counter .claimsWithdrawn = countUp^[s.table.entries.countP (fun e =>
        e.isTentative && (gone e || (near e && s.withdrawnAtOnce e.slot)))] (s.counter .claimsWithdrawn)
    ∧ (∀ n, n ≠ .claimsWithdrawn → t.counter n = s.counter n)
    ∧ t.status = { s.status with counters := t.status.counters }

/-! ### Candidates -/

/-- Whether a cradle is OPEN, bound to a class and lot, with room in the bunch (R96). -/
def State.hasRoomFor (s : State) (cls lot size : Nat) (c : CradleId) : Prop :=
  (s.cradle c).state = .opened ∧ (s.cradle c).binding = some ⟨cls, lot⟩
    ∧ (s.cradle c).placed + (s.cradle c).won + (s.cradle c).tentative < size

/-- Whether a cradle is the one a stem goes to: an OPEN one of its class and lot with room, the greater sum first and A
at a tie; with none such, an EMPTY one, A first (R96). -/
def State.isChosen (s : State) (cls lot size : Nat) : CradleId → Prop
  | .a => (s.hasRoomFor cls lot size .a ∧ (s.hasRoomFor cls lot size .b →
        s.cradles.b.placed + s.cradles.b.won + s.cradles.b.tentative
          ≤ s.cradles.a.placed + s.cradles.a.won + s.cradles.a.tentative))
      ∨ (¬ s.hasRoomFor cls lot size .a ∧ ¬ s.hasRoomFor cls lot size .b ∧ s.cradles.a.state = .empty)
  | .b => (s.hasRoomFor cls lot size .b ∧ (s.hasRoomFor cls lot size .a →
        s.cradles.a.placed + s.cradles.a.won + s.cradles.a.tentative
          < s.cradles.b.placed + s.cradles.b.won + s.cradles.b.tentative))
      ∨ (¬ s.hasRoomFor cls lot size .a ∧ ¬ s.hasRoomFor cls lot size .b ∧ s.cradles.a.state ≠ .empty
        ∧ s.cradles.b.state = .empty)

/-- A slot is kept by this station for a cradle: by a TENTATIVE or MINE entry, a release record, or a hand-over still to
be taken (R98; log 21). -/
def State.keptFor (s : State) (c : CradleId) (slot : Slot) : Prop :=
  (∃ e ∈ s.table.entries, e.slot = slot ∧ (e.state = .mine c ∨ ∃ y w, e.state = .tentative c y w))
  ∨ (∃ r, s.release.delayed = some r ∧ r.cradle = c ∧ r.slot = slot)
  ∨ (∃ w r, s.release.window = some w ∧ w.record = some r ∧ r.cradle = c ∧ r.slot = slot)
  ∨ (∃ period, .releaseHandover slot c period ∈ s.handed)

/-- Two slots lie within Gf carriers of each other, either way round the chain (R98). -/
def State.tooClose (s : State) (x y : Slot) : Prop :=
  forwardDistance s.cfg.chainLength x y ≤ s.cfg.flapGap ∨ forwardDistance s.cfg.chainLength y x ≤ s.cfg.flapGap

/-- The flap gap lets a stem go to a cradle: it is off, or no stem kept for the other cradle is too close (R98). -/
def State.gapFree (s : State) (slot : Slot) (c : CradleId) : Prop :=
  s.cfg.flapGap = 0 ∨ ∀ x, s.keptFor (otherCradle c) x → ¬ s.tooClose slot x

end Sys2Proof.Machine
end

