-- ==== Sys2Proof/Certificates/Slice0/Obligations.lean ====
section
/-! DEFINITION. The statements for the provers: what each command of the LB412 does and what the machine
keeps, from the numbered rules of the spec. -/

open Sys2Proof Sys2Proof.Machine

/-! ### The machine -/

/-- The step asked of a block: a command waiting at the front of the queue is executed with the queue's
rest. -/
def Obligations.StepRunsTheFrontCommand : Prop :=
  ∀ (c : Instr) (s : State) (rest : List Instr),
    s.pending = c :: rest → step s = exec c { s with pending := rest }

/-- With no command waiting, the oldest arrival handed over is executed, then what time has brought, then a
tick passes. What time brings is the qualification of an assertion that has lasted its filter's width (R1, R4, R56, R89,
R127, R180), the expiry of a timer (R39, R143, R145, R146, R156 to R159, R169, R175, R181), a scan at its time (R42), the
stall at 262,143 ticks (R10), a line recessive for 30 bit times (R19, R29), and the free line for a queue with a frame
(R20), which opens its window at once also where ACK has just cleared TX_FAULT in IDLE, by the model's choice (log 37).
A tick adds one to each running count and takes one from each running timer, and ten µs to the recessive line, or
none of it where the free line level is dominant; it changes nothing else. The order of what is due together, a tick as
the step's way to pass time, and the levels no command reports are the model's choice (log 1, log 2, log 5). -/
def Obligations.StepWithNoCommandWaiting : Prop :=
  ∀ s : State, s.pending = [] →
    (∀ c rest, s.handed = c :: rest → step s = exec c s)
    ∧ (∀ c, s.handed = [] → s.due = some c → step s = exec c s)
    ∧ (s.handed = [] → s.due = none → step s = .next s.tick)
    ∧ (s.handed = [] → (∃ c, Brought s c) → ∃ c, Brought s c ∧ step s = exec c s)
    ∧ (s.handed = [] → (∀ c, ¬ Brought s c) → step s = .next { s with
      loader := { s.loader with
        announce := lowered s.loader.announce
        memory := match s.loader.memory with
          | .retryWait attempt left => .retryWait attempt (left - 1)
          | .inactive => .inactive
          | .transaction attempt => .transaction attempt }
      tracker := { s.tracker with
        interval := s.tracker.interval.map (fun n => min (n + 1) 262143)
        cpFilter := widened s.cfg.cpWidth s.tracker.cpFilter
        gateFilter := widened s.cfg.gateWidth s.tracker.gateFilter }
      bus := { s.bus with
        gap := if s.bus.state = .waitGap ∨ s.bus.state = .stuck then
            (if Config.lineDominantLevel s.now = true then 0 else s.bus.gap + 10)
          else s.bus.gap }
      gauge := { s.gauge with
        port := match s.gauge.port with
          | .idle => .idle
          | .awaiting timer clocking position => .awaiting (min (timer + 1) s.cfg.responseLimit) clocking position
        window := s.gauge.window.map (fun w => { w with elapsed := w.elapsed + 1 })
        lotFilter := widened 2000 s.gauge.lotFilter }
      engine := { s.engine with
        holdFilter := match s.engine.holdFilter with
          | .changing n => .changing (min (n + 1) 2000)
          | .stopped => .stopped
          | .steady => .steady }
      cradles := { s.cradles with clrA := widened 2000 s.cradles.clrA, clrB := widened 2000 s.cradles.clrB }
      release := { s.release with
        delayTimer := lowered s.release.delayTimer
        pulseTimer := lowered s.release.pulseTimer
        window := s.release.window.map (fun w => { w with left := w.left - 1 })
        settle := lowered s.release.settle }
      tie := { s.tie with limit := lowered s.tie.limit, shift := lowered s.tie.shift }
      status := { s.status with
        ackFilter := widened 2000 s.status.ackFilter
        flash := lowered s.status.flash }
      now := s.now + 1 })

/-- No command faults or is refused in any state, and none touches the queue of waiting commands. -/
def Obligations.EveryCommandAnswersANextState : Prop :=
  ∀ (c : Instr) (s : State), ∃ t, exec c s = .next t ∧ t.pending = s.pending

/-- RESET, in every state: the values of R17, R37, R66, R87, R112, R138, R153, R167, R178, R180 and R182.
Input levels, waiting commands and the tick count stay, and a snapshot being read is dropped: the model's
choice (log 8, log 10). -/
def Obligations.ResetReturnsTheResetValues : Prop :=
  ∀ s : State, ∃ t, exec .reset s = .next t
    ∧ (t.loader.mode = .loading ∧ t.loader.role = none ∧ t.loader.id = none ∧ t.loader.record = none
      ∧ t.loader.reason = 0 ∧ t.loader.announce = none ∧ t.loader.memory = .inactive)
    ∧ (t.tracker.state = .unsynced ∧ t.tracker.slotHere = none ∧ t.tracker.period = 0
      ∧ t.tracker.interval = none ∧ t.tracker.timed = false ∧ t.tracker.homeCount = 0
      ∧ t.tracker.cpFilter = .stopped ∧ t.tracker.gateFilter = .stopped)
    ∧ (t.bus.state = .stopped ∧ t.bus.queue = [] ∧ t.bus.sending = none ∧ t.bus.spoilRun = 0
      ∧ t.bus.gaugeId = none)
    ∧ (t.gauge.port = .idle ∧ t.gauge.window = none ∧ t.gauge.lostRun = 0 ∧ t.gauge.lotNumber = 0
      ∧ t.gauge.lastStemSlot = none ∧ t.gauge.pendingPress = false ∧ t.gauge.lotFilter = .stopped
      ∧ t.gauge.watch = [] ∧ t.gauge.lastUnserved = none)
    ∧ (t.table.entries = [] ∧ t.table.lotCloses = [])
    ∧ (t.engine.held = false ∧ t.engine.holdFilter = .stopped)
    ∧ (t.cradles.a = Cradle.emptyRecord ∧ t.cradles.b = Cradle.emptyRecord ∧ t.cradles.tieQueue = []
      ∧ t.cradles.bunchSequence = 0 ∧ t.cradles.held = false ∧ t.cradles.clrA = .stopped
      ∧ t.cradles.clrB = .stopped)
    ∧ (t.release.delayed = none ∧ t.release.rel = false ∧ t.release.pulseTimer = none
      ∧ t.release.window = none ∧ t.release.flap = .a ∧ t.release.settle = none ∧ t.release.held = false)
    ∧ (t.tie.phase = .idle ∧ t.tie.abortStep = false ∧ t.tie.abortPending = true ∧ t.tie.current = none
      ∧ t.tie.lastRecord = none ∧ t.tie.earlyAck = false ∧ t.tie.limit = none ∧ t.tie.held = false
      ∧ t.tie.lastCode = none ∧ t.tie.lastFault = 0)
    ∧ (∀ n, t.counter n = 0) ∧ (∀ f, t.flag f = false)
    ∧ t.pins = s.pins ∧ t.pending = s.pending ∧ t.now = s.now ∧ t.handed = [] ∧ t.status.snapshot = none

/-- Every property below that every step keeps holds at reset. -/
def Obligations.ResetIsSoundInEveryBlock : Prop :=
  State.reset.idleBeforeLoad ∧ State.reset.trackerSound ∧ State.reset.queueSound ∧ State.reset.watchSound
    ∧ State.reset.tableSound ∧ State.reset.tieQueueSound ∧ State.reset.cradlesSound
    ∧ State.reset.releaseSound

/-! ### Start-up -/

/-- R168, R169: the straps are read and the first of ten attempts begins; an attempt without acknowledge waits
100 ticks, the tenth fails check 1. That RESET_RELEASE is the instant at which LOADING's work begins, and that the part
knows by a field of its own whether RESET is asserted, is the model's reading (log 8). -/
def Obligations.StrapsAndMemoryAttempts : Prop :=
  ∀ s : State, s.loader.mode = .loading →
    (∀ rolePin idPins, s.loader.resetAsserted = true →
      exec (.resetRelease rolePin idPins) s = .next { s with loader := { s.loader with
        role := some (if rolePin = true then .gauge else .drop)
        id := some idPins
        memory := .transaction 1
        resetAsserted := false } })
    ∧ (∀ n, s.loader.memory = .transaction n → n < 10 →
      exec .memoryNoAcknowledge s = .next { s with loader := { s.loader with memory := .retryWait n 100 } })
    ∧ (∀ n, s.loader.memory = .transaction n → 10 ≤ n →
      exec .memoryNoAcknowledge s = .next { s with
        loader := { s.loader with mode := .configFault, reason := 1, memory := .inactive }
        status := { s.status with flags := { s.status.flags with configFault := true } } })
    ∧ (∀ n left, s.loader.memory = .retryWait n left →
      exec .retryWaitExpiry s = .next { s with loader := { s.loader with memory := .transaction (n + 1) } })

/-- R170: the least number among the failed checks of the role becomes the reason code, with CONFIG_FAULT; the checks
compare the bytes of the record as the table of R170 gives, and the record in use holds the fields of R184, its times in
ticks.
R172, R173: with no failed check the record is taken into use, ANNOUNCING begins with the announce timer at
25,000 ticks, P becomes Pnom, the bus enters WAIT_GAP, a HELLO of value 8,192 + id is queued. -/
def Obligations.RecordReadIsJudgedAndTakenIntoUse : Prop :=
  ∀ (s : State) (role : Role) (attempt : Nat) (bytes : List Byte),
    s.loader.mode = .loading → s.loader.memory = .transaction attempt → s.loader.role = some role →
    bytes.length = 128 →
    (∀ b w : Nat → Nat, (∀ i, b i = (bytes.getD i 0#8).toNat) → (∀ i, w i = b i * 256 + b (i + 1)) →
      (∀ k, (k, true) ∈ roleChecks role s.stationId bytes ↔ recordFails role s.stationId (crcOf bytes) b w k)
      ∧ recordTaken role b w (configOf role bytes))
    ∧ (∀ k, (k, true) ∈ roleChecks role s.stationId bytes →
      (∀ j, (j, true) ∈ roleChecks role s.stationId bytes → k ≤ j) →
      exec (.recordReadComplete bytes) s = .next { s with
        loader := { s.loader with mode := .configFault, reason := k, memory := .inactive }
        status := { s.status with flags := { s.status.flags with configFault := true } } })
    ∧ ((∀ j, (j, true) ∉ roleChecks role s.stationId bytes) → s.bus.queue = [] →
      ∃ t, exec (.recordReadComplete bytes) s = .next t
        ∧ t.loader = { s.loader with
            mode := .announcing, record := some (configOf role bytes), announce := some 25000
            memory := .inactive }
        ∧ t.bus = { s.bus with
            state := .waitGap, gap := 0
            queue := [⟨⟨8192 + s.stationId, .hello (match role with | .gauge => 1 | .drop => 2)⟩,
              none, 0, false, none⟩] }
        ∧ t.tracker.period = (configOf role bytes).periodNominal ∧ t.tracker.timed = false
        ∧ t.tracker.cpFilter = (if s.pins.cp = true then .held else .released)
        ∧ (role = .drop → t.tracker.gateFilter = (if s.pins.gate = true then .held else .released)
          ∧ t.engine = ⟨s.pins.hold, .steady⟩ ∧ t.cradles.held = s.pins.hold
          ∧ t.release.held = s.pins.hold ∧ t.tie.held = s.pins.hold
          ∧ t.cradles.clrA = (if s.pins.clrA = true then .held else .released)
          ∧ t.cradles.clrB = (if s.pins.clrB = true then .held else .released))
        ∧ (role = .gauge → t.tracker.gateFilter = .stopped
          ∧ t.gauge.lotFilter = (if s.pins.lot = true then .held else .released))
        ∧ t.status.ackFilter = (if s.pins.ack = true then .held else .released)
        ∧ t.table = s.table ∧ t.handed = s.handed ∧ t.status.flags = s.status.flags
        ∧ t.status.counters = s.status.counters)

/-- R175: the announce timer's expiry makes the mode ACTIVE and hands the held flag to the three blocks that
keep a copy; each sets its copy. -/
def Obligations.AnnouncingEndsInActive : Prop :=
  (∀ s : State, s.loader.mode = .announcing → s.loader.announce ≠ none →
    (s.loader.role = some .drop → exec .announceTimerExpiry s = .next { s with
      loader := { s.loader with mode := .active, announce := none }
      handed := s.handed ++ [.modeNotice .cradleManager s.engine.held,
        .modeNotice .releaseUnit s.engine.held, .modeNotice .tiePort s.engine.held] })
    ∧ (s.loader.role = some .gauge → exec .announceTimerExpiry s = .next { s with
      loader := { s.loader with mode := .active, announce := none } }))
  ∧ (∀ (s : State) (held : Bool), s.loader.role = some .drop → s.loader.mode = .active →
    exec (.modeNotice .cradleManager held) s = .next { s with
      cradles := { s.cradles with held := held }
      handed := s.handed.erase (.modeNotice .cradleManager held) }
    ∧ exec (.modeNotice .releaseUnit held) s = .next { s with
      release := { s.release with held := held }
      handed := s.handed.erase (.modeNotice .releaseUnit held) }
    ∧ (s.cradles.tieQueue = [] → exec (.modeNotice .tiePort held) s = .next { s with
      tie := { s.tie with held := held }
      handed := s.handed.erase (.modeNotice .tiePort held) }))

/-- R176 with R37, R46, R65, R86, R137, R152, R166: what each block does with the halt notice. The order of the
outcomes, of the RETURN and MISS operations of the table, and of the MISS of an open window before that of a record in
DELAY is the model's choice (log 39). -/
def Obligations.HaltNoticeIsTakenByEachBlock : Prop :=
  ∀ (s : State) (held : Bool), s.loader.mode = .halted →
    (exec (.haltNotice .lineBus held) s = .next { s with
      bus := { s.bus with queue := [] }
      handed := s.handed.erase (.haltNotice .lineBus held)
        ++ s.bus.queue.map (fun q => outcomeArrival q.frame.body .discarded) })
    ∧ (s.loader.role = some .gauge → exec (.haltNotice .gaugeUnit held) s = .next { s with
      gauge := { s.gauge with port := .idle, window := none, pendingPress := false, watch := [] }
      handed := s.handed.erase (.haltNotice .gaugeUnit held) })
    ∧ (s.loader.role = some .drop →
      exec (.haltNotice .flightTable held) s = .next { s with
        table := ⟨[], []⟩
        handed := s.handed.erase (.haltNotice .flightTable held)
          ++ s.table.entries.flatMap (fun e => match e.state with
            | .tentative c _ _ => [.returnCount c]
            | .mine c => [.miss c]
            | _ => []) }
      ∧ exec (.haltNotice .claimEngine held) s = .next { s with
        handed := s.handed.erase (.haltNotice .claimEngine held) }
      ∧ exec (.haltNotice .cradleManager held) s = .next { s with
        cradles := { s.cradles with held := held }
        handed := s.handed.erase (.haltNotice .cradleManager held) }
      ∧ exec (.haltNotice .tiePort held) s = .next { s with
        tie := { s.tie with held := held }
        handed := s.handed.erase (.haltNotice .tiePort held) }
      ∧ ∃ t, exec (.haltNotice .releaseUnit held) s = .next t
        ∧ t = { s with release := t.release, handed := t.handed }
        ∧ t.release.rel = false ∧ t.release.pulseTimer = none ∧ t.release.delayed = none
        ∧ t.release.window = none ∧ t.release.flap = .a ∧ t.release.held = held
        ∧ t.release.settle = (if s.release.flap = .a then s.release.settle else some s.cfg.settleTime)
        ∧ t.handed = s.handed.erase (.haltNotice .releaseUnit held)
          ++ (match s.release.window.bind (fun w => w.record) with
            | some r => [.miss r.cradle]
            | none => [])
          ++ (match s.release.delayed with
            | some r => [.miss r.cradle]
            | none => []))

/-- The station mode moves only as the table of section 9.1 gives: CONFIG_FAULT and HALTED are left only by
reset. R177: outside the modes in which a block drives them the outputs stand at their safe levels; in those modes REL
and FLAP follow the Release Unit, SREQ and SCLK the scan port (R38), TCLK the tie port (R154), and MCL and MDA carry the
transaction of R169 in LOADING, whose conditions last the half clocks of the model's choice (log 4). -/
def Obligations.ModeMovesOnlyAsTheTableGives : Prop :=
  (∀ (c : Instr) (s t : State), exec c s = .next t →
    (c = .reset ∧ t.loader.mode = .loading) ∨ modeMoves s.loader.mode t.loader.mode = true)
  ∧ (∀ s : State, s.safeOutputs)
  ∧ (∀ s : State, s.loader.role = some .gauge → s.relOutput = false ∧ s.flapOutput = .a ∧ s.tieClockRuns = false
    ∧ (s.loader.mode = .active →
      (s.scanRequestOutput = true ↔ ∃ timer position, s.gauge.port = .awaiting timer false position)
      ∧ (s.scanClockRuns = true ↔ ∃ timer position, s.gauge.port = .awaiting timer true position)))
  ∧ (∀ s : State, s.loader.role = some .drop → s.scanRequestOutput = false ∧ s.scanClockRuns = false
    ∧ (s.loader.mode = .active → s.relOutput = s.release.rel ∧ s.flapOutput = s.release.flap)
    ∧ (s.loader.mode = .active ∨ s.loader.mode = .halted →
      (s.tieClockRuns = true ↔ s.tie.phase = .sending ∨ s.tie.phase = .reading)))
  ∧ (∀ (s : State) (missed : Option MissedByte) (n : Nat), s.loader.mode = .loading →
    (s.memoryClockRuns = true ↔ ∃ attempt, s.loader.memory = .transaction attempt)
    ∧ ((∃ attempt, s.loader.memory = .transaction attempt) →
      s.memoryBusOut missed n = ((attemptItems missed).flatMap itemLevels).getD n ⟨true, true⟩))
  ∧ attemptItems none = [.start, .send 0xA8#8, .send 0x00#8, .repeatedStart, .send 0xA9#8]
    ++ List.replicate 127 (.read true) ++ [.read false, .stop]

/-- R171 and the reset rules: in LOADING and CONFIG_FAULT every block but the loader keeps its reset values, every
counter at 0 and every flag but CONFIG_FAULT clear. That the ACK filter is stopped and the lamp flash stopped and dark
there is the model's choice (log 6, log 11). -/
def Obligations.BlocksKeepResetValuesUntilLoaded : Prop := KeptByEveryStep State.idleBeforeLoad

/-! ### Carrier tracking -/

/-- R1, R4, R5: an assertion starts a released filter, a release returns a running filter to released; a CP
assertion released while qualifying is a counted glitch, and no other input counts. That a release taken at the tick
that reaches the filter's width, before the qualification is, counts so too is the model's choice (log 30). -/
def Obligations.FiltersFollowTheirInputs : Prop :=
  ∀ (s : State) (input : FilteredInput),
    (∃ t, exec (.filterInputAsserted input) s = .next t
      ∧ t.setFilter input (s.filter input) = { s with pins := s.pins.set true input }
      ∧ (s.filter input = .released → t.filter input = .qualifying 0)
      ∧ (s.filter input ≠ .released → t.filter input = s.filter input))
    ∧ (∃ t, exec (.filterInputReleased input) s = .next t
      ∧ t.setFilter input (s.filter input)
        = (if input = .cp ∧ s.tracker.cpFilter.isQualifying = true then
            ({ s with pins := s.pins.set false input }).bump .glitches
          else { s with pins := s.pins.set false input })
      ∧ (s.filter input = .stopped → t.filter input = .stopped)
      ∧ (s.filter input ≠ .stopped → t.filter input = .released))

/-- R2: a qualified CP edge before Pmin is counted and discarded. R6: in UNSYNCED an accepted pulse with HM
enters TRACKING at slot 0 and is handed to the consumers, one without HM leaves UNSYNCED. An edge named in released stands
for the assertion and its width, the pin as last reported (log 3). -/
def Obligations.EarlyPulseAndUnsyncedPulse : Prop :=
  ∀ (s : State) (home : Bool), s.loaded → s.tracker.cpFilter.admitsEdge = true →
    (∀ n, s.tracker.interval = some n → n < s.cfg.periodMin →
      exec (.cpQualification home) s = .next
        (({ s with tracker := { s.tracker with cpFilter := .held } }).bump .earlyPulses))
    ∧ ((∀ n, s.tracker.interval = some n → s.cfg.periodMin ≤ n) → s.tracker.state = .unsynced →
      exec (.cpQualification true) s = .next { s with
        tracker := { s.tracker with
          state := .tracking, slotHere := some 0, period := s.cfg.periodNominal, interval := some 0
          timed := false, homeCount := 0, cpFilter := .held }
        handed := s.handed ++ arrivalConsumers s.loader.role ⟨0, s.cfg.periodNominal, false⟩ }
      ∧ ∃ t, exec (.cpQualification false) s = .next t
        ∧ t = { s with tracker := t.tracker, status := t.status }
        ∧ t.tracker = { s.tracker with
          slotHere := none, interval := some 0, cpFilter := .held
          homeCount := min (s.tracker.homeCount + 1) (2 * s.cfg.chainLength) }
        ∧ t.status = (if s.tracker.homeCount + 1 < 2 * s.cfg.chainLength then s.status
          else { s.status with flags := { s.status.flags with homeMissing := true } }))

/-- R7, R8, R9, R12, R13: an accepted pulse in TRACKING advances the numbering mod L, HM returns it to 0
(a slip when the advanced value is not 0), P takes the interval when the timed flag is set, and the
consumers of the role get the new slot here, the new P and the slip mark. An edge named in released stands for the
assertion and its width, the pin as last reported (log 3). -/
def Obligations.PulseInTrackingNumbersAndTimes : Prop :=
  ∀ (s : State) (here : Slot) (home : Bool), s.loaded → s.tracker.cpFilter.admitsEdge = true →
    (∀ n, s.tracker.interval = some n → s.cfg.periodMin ≤ n) → s.tracker.state = .tracking →
    s.tracker.slotHere = some here → 0 < s.cfg.chainLength →
    ∃ t, exec (.cpQualification home) s = .next t
      ∧ t = { s with tracker := t.tracker, status := t.status, handed := t.handed }
      ∧ t.tracker.state = .tracking ∧ t.tracker.interval = some 0 ∧ t.tracker.timed = true
      ∧ t.tracker.cpFilter = .held ∧ t.tracker.gateFilter = s.tracker.gateFilter
      ∧ t.tracker.slotHere = some (if home = true then 0 else (here + 1) % s.cfg.chainLength)
      ∧ t.tracker.period = (match s.tracker.timed, s.tracker.interval with
          | true, some n => n
          | _, _ => s.tracker.period)
      ∧ t.tracker.homeCount = (if home = true then 0
          else min (s.tracker.homeCount + 1) (2 * s.cfg.chainLength))
      ∧ t.handed = s.handed ++ arrivalConsumers s.loader.role
          ⟨if home = true then 0 else (here + 1) % s.cfg.chainLength, t.tracker.period,
            decide (home = true ∧ (here + 1) % s.cfg.chainLength ≠ 0)⟩
      ∧ t.flag .slip = (s.flag .slip || decide (home = true ∧ (here + 1) % s.cfg.chainLength ≠ 0))
      ∧ t.counter .slips = (if home = true ∧ (here + 1) % s.cfg.chainLength ≠ 0
          then countUp (s.counter .slips) else s.counter .slips)
      ∧ t.counter .homeMissed = (if home = false ∧ (here + 1) % s.cfg.chainLength = 0
          then countUp (s.counter .homeMissed) else s.counter .homeMissed)
      ∧ t.flag .homeMissing = (s.flag .homeMissing
          || decide (home = false ∧ 2 * s.cfg.chainLength ≤ s.tracker.homeCount + 1))
      ∧ (∀ n, n ≠ .slips → n ≠ .homeMissed → t.counter n = s.counter n)
      ∧ (∀ f, f ≠ .slip → f ≠ .homeMissing → t.flag f = s.flag f)

/-- R10: the stall is entered when the interval timer stands at 262,143, and slot here, P and the timer keep their
values. R11: an accepted pulse in STALLED returns to TRACKING, numbered, judged for the home mark and handed to the
consumers as in TRACKING, with P at Pnom and the timed flag clear; where stall and pulse fall due together, a pulse
taken first is timed, P becomes 262,143 and the stall then does not occur, and a stall taken first is left by the
pulse with P at Pnom. An edge named in released stands for the assertion and its width, the pin as last reported: the
model's choice (log 3). -/
def Obligations.StallAndTheReturnFromIt : Prop :=
  (∀ s : State, s.tracker.state = .tracking → s.tracker.interval = some 262143 →
    exec .stall s = .next { s with tracker := { s.tracker with state := .stalled } })
  ∧ (∀ (s : State) (here : Slot) (home : Bool), s.loaded → s.tracker.cpFilter.admitsEdge = true →
    (∀ n, s.tracker.interval = some n → s.cfg.periodMin ≤ n) → s.tracker.state = .stalled →
    s.tracker.slotHere = some here →
    ∃ t, exec (.cpQualification home) s = .next t
      ∧ t.tracker = { s.tracker with
          state := .tracking, period := s.cfg.periodNominal, timed := false, interval := some 0, cpFilter := .held
          slotHere := some (if home = true then 0 else (here + 1) % s.cfg.chainLength)
          homeCount := if home = true then 0
            else min (s.tracker.homeCount + 1) (2 * s.cfg.chainLength) }
      ∧ t.handed = s.handed ++ arrivalConsumers s.loader.role
          ⟨if home = true then 0 else (here + 1) % s.cfg.chainLength, s.cfg.periodNominal,
            decide (home = true ∧ (here + 1) % s.cfg.chainLength ≠ 0)⟩
      ∧ t.flag .slip = (s.flag .slip || decide (home = true ∧ (here + 1) % s.cfg.chainLength ≠ 0))
      ∧ t.counter .slips = (if home = true ∧ (here + 1) % s.cfg.chainLength ≠ 0
          then countUp (s.counter .slips) else s.counter .slips)
      ∧ t.counter .homeMissed = (if home = false ∧ (here + 1) % s.cfg.chainLength = 0
          then countUp (s.counter .homeMissed) else s.counter .homeMissed)
      ∧ t.flag .homeMissing = (s.flag .homeMissing
          || decide (home = false ∧ 2 * s.cfg.chainLength ≤ s.tracker.homeCount + 1))
      ∧ (∀ n, n ≠ .slips → n ≠ .homeMissed → t.counter n = s.counter n)
      ∧ (∀ f, f ≠ .slip → f ≠ .homeMissing → t.flag f = s.flag f)
      ∧ t = { s with tracker := t.tracker, status := t.status, handed := t.handed })
  ∧ (∀ (s : State) (home : Bool), s.loaded → s.tracker.cpFilter.admitsEdge = true →
    s.cfg.periodMin ≤ 262143 → s.tracker.state = .tracking →
    s.tracker.interval = some 262143 →
    (s.tracker.timed = true → ∃ t, exec (.cpQualification home) s = .next t
      ∧ t.tracker.state = .tracking ∧ t.tracker.period = 262143 ∧ t.tracker.interval = some 0
      ∧ exec .stall t = .next t)
    ∧ (∃ m t, exec .stall s = .next m ∧ m.tracker.state = .stalled
      ∧ exec (.cpQualification home) m = .next t
      ∧ t.tracker.state = .tracking ∧ t.tracker.period = s.cfg.periodNominal ∧ t.tracker.timed = false))

/-- R7, R12, R13: past loading slot here is below L, P lies from Pmin to 262,143, the home count is at most
2L: kept by every step. -/
def Obligations.TrackerStaysInItsRanges : Prop := KeptByEveryStep State.trackerSound

/-! ### The line bus -/

/-- R19, R20, R29: the idle gap, a dominant level in the count, leaving and entering STUCK, and a contention
window that the station joins with its queue head or, when it may not offer, receives. STUCK_ENTRY in CONTENDING and
SENDING: the frame has been lost or spoiled by then, which the model carries out in that step (R29; the model's
choice, log 25). A station that ACK has made able to offer while in IDLE offers in that IDLE, by the model's choice
(log 37), and the fields of a held removal request are the model's (log 16). R18: a frame on the line is its characters one after the other, each a dominant start bit, its bits
most significant first, a 1 dominant, and a recessive stop bit; with no frame of its own the station drives nothing. -/
def Obligations.LineStateFollowsTheLine : Prop :=
  (∀ s : State,
    (s.bus.state = .waitGap →
      exec .idleGapComplete s = .next { s with bus := { s.bus with state := .idle, gap := 0 } })
    ∧ (s.bus.state = .waitGap ∨ s.bus.state = .stuck →
      exec .dominantLevelInWaitGap s = .next { s with bus := { s.bus with gap := 0 } })
    ∧ (s.bus.state = .stuck →
      exec .stuckExit s = .next { s with bus := { s.bus with state := .idle, gap := 0 } })
    ∧ (s.bus.state = .waitGap ∨ s.bus.state = .idle ∨ s.bus.state = .receiving →
      exec .stuckEntry s = .next { s with
        bus := { s.bus with state := .stuck, gap := 0 }
        status := { s.status with flags := { s.status.flags with busStuck := true } } })
    ∧ (∀ q rest, s.bus.state = .idle → s.loader.mode = .announcing ∨ s.loader.mode = .active →
      s.flag .txFault = false → s.bus.queue = q :: rest →
      exec .contentionWindow s = .next { s with
        bus := { s.bus with state := .contending, queue := { q with contended := true } :: rest } })
    ∧ (s.bus.state = .idle →
      (s.loader.mode ≠ .announcing ∧ s.loader.mode ≠ .active) ∨ s.flag .txFault = true ∨ s.bus.queue = [] →
      exec .contentionWindow s = .next { s with bus := { s.bus with
        state := .receiving, gap := 0, ownSpoiled := false } })
    ∧ (∀ before after q, s.bus.state = .contending → s.bus.queue = before ++ q :: after → q.contended = true →
      (∀ x ∈ before, x.contended = false) → (∀ x ∈ after, x.contended = false) →
      ∃ t, exec .stuckEntry s = .next t
        ∧ t.bus = { s.bus with
            state := .stuck, gap := 0, queue := t.bus.queue
            removalHeld := t.bus.removalHeld, removalAnswer := t.bus.removalAnswer }
        ∧ s.contentionLostFor before q after t
        ∧ (∀ n, n ≠ .framesDropped → n ≠ .claimsWithdrawn → t.counter n = s.counter n)
        ∧ t.flag .busStuck = true ∧ (∀ g, g ≠ .busStuck → t.flag g = s.flag g)
        ∧ t = { s with bus := t.bus, table := t.table, status := t.status, handed := t.handed })
    ∧ (∀ f, s.bus.state = .sending → s.bus.sending = some f → ∃ t, exec .stuckEntry s = .next t
      ∧ t.bus = { s.bus with
          state := .stuck, gap := 0, sending := none, spoilRun := min (s.bus.spoilRun + 1) 16 }
      ∧ t.handed = s.handed ++ [outcomeArrival f.body .spoiled]
      ∧ t.counter .spoiledTransmissions = countUp (s.counter .spoiledTransmissions)
      ∧ (∀ n, n ≠ .spoiledTransmissions → t.counter n = s.counter n)
      ∧ t.flag .busStuck = true ∧ t.flag .txFault = (s.flag .txFault || decide (15 ≤ s.bus.spoilRun))
      ∧ (∀ g, g ≠ .busStuck → g ≠ .txFault → t.flag g = s.flag g)
      ∧ t = { s with bus := t.bus, status := t.status, handed := t.handed }))
  ∧ (∀ (s : State) (f : Frame) (i : Nat) (char : Byte), s.loader.mode = .announcing ∨ s.loader.mode = .active →
    (s.bus.state = .sending ∧ s.bus.sending = some f)
      ∨ (s.bus.state = .contending ∧ (s.bus.queue.find? (fun q => q.contended)).map (fun q => q.frame) = some f) →
    ((frameBytes f)[i]? = some char →
      s.lineLevel (10 * i) = true
      ∧ (∀ j, j < 8 → s.lineLevel (10 * i + 1 + j) = char.getLsbD (7 - j))
      ∧ s.lineLevel (10 * i + 9) = false)
    ∧ (∀ n, 10 * (frameBytes f).length ≤ n → s.lineLevel n = false))
  ∧ (∀ (s : State) (n : Nat), s.bus.state ≠ .contending → s.bus.state ≠ .sending → s.lineLevel n = false)
  ∧ (∀ char : Byte, readCharacter (characterLevels char) = some char)

/-- R22, R30, R74: a lost contention leaves the frame at its place, unless an expiry or a removal was held for it, which
takes it out; a withdrawal of its claim that waited is then carried out at once, with its target and RETURN. A won one
takes the frame out of the queue as the frame being sent, and a waiting withdrawal's reason becomes the pending yield. The
withdrawal that waits in the entry is the model's way to hold it (log 16). -/
def Obligations.ContentionIsLostOrWon : Prop :=
  ∀ (s : State) (before after : List QueuedFrame) (q : QueuedFrame),
    s.bus.state = .contending → s.bus.queue = before ++ q :: after → q.contended = true →
    (∀ x ∈ before, x.contended = false) → (∀ x ∈ after, x.contended = false) →
    (q.heldEvent = none → exec .contentionLost s = .next { s with bus := { s.bus with
      state := .receiving, gap := 0, ownSpoiled := false
      queue := before ++ { q with contended := false } :: after } })
    ∧ (∃ t, exec .contentionLost s = .next t
      ∧ t.bus = { s.bus with
          state := .receiving, gap := 0, ownSpoiled := false, queue := t.bus.queue
          removalHeld := t.bus.removalHeld, removalAnswer := t.bus.removalAnswer }
      ∧ s.contentionLostFor before q after t
      ∧ (∀ n, n ≠ .framesDropped → n ≠ .claimsWithdrawn → t.counter n = s.counter n)
      ∧ t.status.flags = s.status.flags
      ∧ t = { s with bus := t.bus, table := t.table, status := t.status, handed := t.handed })
    ∧ (∃ t, exec .contentionWon s = .next t
      ∧ t.bus = { s.bus with
          state := .sending, gap := 0, sending := some q.frame, queue := before ++ after
          removalHeld := t.bus.removalHeld, removalAnswer := t.bus.removalAnswer }
      ∧ s.waitingTransmitted q.frame.body t ∧ s.heldRequestAnswered .inTransmission t
      ∧ t = { s with bus := t.bus, table := t.table })

/-- R22, R26, R28, R30, R74: a spoiled frame leaves with SPOILED, the counter and the spoil run rise, TX_FAULT is set
when the run reaches 16, and the station receives. A drive that fails answers a held removal request "in transmission".
The fields that hold the request and the withdrawal are the model's (log 16). The station marks what it goes on receiving
after a spoil as left of its own frame, and after a failed drive it does not (R23): the model's reading (log 23). -/
def Obligations.SpoiledTransmissionsAreCounted : Prop :=
  (∀ (s : State) (f : Frame), s.bus.state = .sending → s.bus.sending = some f →
    ∃ t, exec .spoil s = .next t
      ∧ t.bus = { s.bus with
          state := .receiving, gap := 0, ownSpoiled := true, sending := none
          spoilRun := min (s.bus.spoilRun + 1) 16 }
      ∧ t.handed = s.handed ++ [outcomeArrival f.body .spoiled]
      ∧ t.counter .spoiledTransmissions = countUp (s.counter .spoiledTransmissions)
      ∧ (∀ n, n ≠ .spoiledTransmissions → t.counter n = s.counter n)
      ∧ t.flag .txFault = (s.flag .txFault || decide (15 ≤ s.bus.spoilRun))
      ∧ (∀ g, g ≠ .txFault → t.flag g = s.flag g)
      ∧ t = { s with bus := t.bus, status := t.status, handed := t.handed })
  ∧ (∀ (s : State) (before after : List QueuedFrame) (q : QueuedFrame),
    s.bus.state = .contending → s.bus.queue = before ++ q :: after → q.contended = true →
    (∀ x ∈ before, x.contended = false) →
    ∃ t, exec .contentionDriveFailed s = .next t
      ∧ t.bus = { s.bus with
          state := .receiving, gap := 0, ownSpoiled := false
          queue := before ++ after, spoilRun := min (s.bus.spoilRun + 1) 16
          removalHeld := t.bus.removalHeld, removalAnswer := t.bus.removalAnswer }
      ∧ s.waitingTransmitted q.frame.body t ∧ s.heldRequestAnswered .inTransmission t
      ∧ t.handed = s.handed ++ [outcomeArrival q.frame.body .spoiled]
      ∧ t.counter .spoiledTransmissions = countUp (s.counter .spoiledTransmissions)
      ∧ (∀ n, n ≠ .spoiledTransmissions → t.counter n = s.counter n)
      ∧ t.flag .txFault = (s.flag .txFault || decide (15 ≤ s.bus.spoilRun))
      ∧ (∀ g, g ≠ .txFault → t.flag g = s.flag g)
      ∧ t.status = { s.status with flags := t.status.flags, counters := t.status.counters }
      ∧ t = { s with bus := t.bus, table := t.table, status := t.status, handed := t.handed })

/-- R25, R27: a sent frame is counted, ends the spoil run, gives SENT to its owner and is heard by its
sender. -/
def Obligations.SentFrameIsHeardByItsSender : Prop :=
  ∀ (s : State) (f : Frame), s.bus.state = .sending → s.bus.sending = some f →
    s.loader.mode = .announcing ∨ s.loader.mode = .active → f.sender = s.stationId →
    contentBad s.cfg.chainLength f.body = false →
    (isGaugeFrame f.body = true → s.loader.role = some .gauge) →
    ∃ t, exec .frameSent s = .next t
      ∧ t.bus = { s.bus with state := .waitGap, gap := 0, sending := none, spoilRun := 0 }
      ∧ t.handed = s.handed ++ [outcomeArrival f.body .sent] ++ handOver s.loader.role f
      ∧ t.counter .framesSent = countUp (s.counter .framesSent)
      ∧ t.counter .framesHeard = countUp (s.counter .framesHeard)
      ∧ (∀ n, n ≠ .framesSent → n ≠ .framesHeard → t.counter n = s.counter n)
      ∧ t.status.flags = s.status.flags
      ∧ t = { s with bus := t.bus, status := t.status, handed := t.handed }

/-- R25, R34, R36, R37, R176: a heard frame is counted; one with this station's id, or at a gauge a gauge's
frame from another id, sets its flag and halts the station. That no halt notice is handed to the Carrier Tracker, the
Status Port and the loader, which do nothing at it, is the model's choice (log 41). In HALTED nothing but that count follows: that no receive
error of bad content and no foreign frame is counted there, and no gauge id accepted, is the model's reading of R25 and
R37 (log 24). -/
def Obligations.IdentityChecksHaltTheStation : Prop :=
  ∀ (s : State) (chars : List Byte) (f : Frame), s.bus.state = .receiving → parseFrame chars = some f →
    ∃ t, exec (.frameHeard chars) s = .next t
      ∧ t.counter .framesHeard = countUp (s.counter .framesHeard)
      ∧ t.bus.state = .waitGap ∧ t.bus.gap = 0 ∧ t.bus.queue = s.bus.queue
      ∧ (s.loader.mode = .halted → t.loader = s.loader ∧ t.handed = s.handed
        ∧ t.status.flags = s.status.flags ∧ t.bus.gaugeId = s.bus.gaugeId
        ∧ ∀ n, n ≠ .framesHeard → t.counter n = s.counter n)
      ∧ (s.loader.mode = .announcing ∨ s.loader.mode = .active → f.sender = s.stationId →
        t.loader = { s.loader with mode := .halted, announce := none }
        ∧ t.status.flags = { s.status.flags with duplicateId := true }
        ∧ t.handed = s.handed
          ++ (haltBlocks s.loader.role).map (fun b => Instr.haltNotice b s.engine.held))
      ∧ (s.loader.mode = .announcing ∨ s.loader.mode = .active → f.sender ≠ s.stationId →
        s.loader.role = some .gauge → isGaugeFrame f.body = true →
        t.loader = { s.loader with mode := .halted, announce := none }
        ∧ t.status.flags = { s.status.flags with gaugeConflict := true }
        ∧ t.handed = s.handed ++ [.haltNotice .lineBus s.engine.held, .haltNotice .gaugeUnit s.engine.held])
      ∧ t = { s with loader := t.loader, bus := t.bus, status := t.status, handed := t.handed }

/-- R23, R25, R35: past the identity checks a frame of bad content is a receive error; a drop station takes
STEM, LOT and gauge HELLO from the accepted gauge only, the first heard setting it; the frame goes to its
consumer in the role. A discarded frame is a receive error, unless it is what is left of the own frame that the readback
spoiled, and starts the gap, a short one with its eleven bit times counted. That characters which make no good frame count
as a discard, that R23's exception holds for the frame in RECEIVING that follows a spoil, and that a discard in CONTENDING
ends the contention as lost, are the model's readings (log 23); the fields of a held removal request are the model's (log
16). -/
def Obligations.HeardFrameReachesItsConsumer : Prop :=
  (∀ (s : State) (chars : List Byte) (f : Frame), s.bus.state = .receiving → parseFrame chars = some f →
    s.loader.mode = .announcing ∨ s.loader.mode = .active → f.sender ≠ s.stationId →
    ¬ (s.loader.role = some .gauge ∧ isGaugeFrame f.body = true) →
    ∃ t, exec (.frameHeard chars) s = .next t
      ∧ t.loader = s.loader ∧ t.status.flags = s.status.flags
      ∧ (contentBad s.cfg.chainLength f.body = true → t.handed = s.handed ∧ t.bus.gaugeId = s.bus.gaugeId
        ∧ t.counter .receiveErrors = countUp (s.counter .receiveErrors)
        ∧ t.counter .foreignFrames = s.counter .foreignFrames)
      ∧ (contentBad s.cfg.chainLength f.body = false →
        t.counter .receiveErrors = s.counter .receiveErrors
        ∧ (isGaugeFrame f.body = false ∨ s.loader.role = some .gauge →
          t.handed = s.handed ++ handOver s.loader.role f ∧ t.bus.gaugeId = s.bus.gaugeId
          ∧ t.counter .foreignFrames = s.counter .foreignFrames)
        ∧ (isGaugeFrame f.body = true → s.loader.role = some .drop →
          s.bus.gaugeId = none ∨ s.bus.gaugeId = some f.sender →
          t.handed = s.handed ++ handOver (some .drop) f ∧ t.bus.gaugeId = some f.sender
          ∧ t.counter .foreignFrames = s.counter .foreignFrames)
        ∧ (∀ g, isGaugeFrame f.body = true → s.loader.role = some .drop → s.bus.gaugeId = some g →
          g ≠ f.sender → t.handed = s.handed ∧ t.bus.gaugeId = some g
          ∧ t.counter .foreignFrames = countUp (s.counter .foreignFrames)))
      ∧ t = { s with bus := t.bus, status := t.status, handed := t.handed })
  ∧ (∀ (s : State) (chars : List Byte), s.bus.state = .receiving → parseFrame chars = none →
    (s.bus.ownSpoiled = false → exec (.frameHeard chars) s = .next (({ s with bus := { s.bus with
      state := .waitGap, gap := 0 } }).bump .receiveErrors))
    ∧ (s.bus.ownSpoiled = true → exec (.frameHeard chars) s = .next { s with bus := { s.bus with
      state := .waitGap, gap := 0 } }))
  ∧ (∀ chars : List Byte, crcGood chars = false → parseFrame chars = none)
  ∧ (∀ (s : State) (cause : DiscardCause), s.bus.state = .receiving →
    (∀ q ∈ s.bus.queue, q.contended = false) →
    ∀ discarded, discarded = { s with bus := { s.bus with
      state := .waitGap
      gap := if cause = DiscardCause.short then 11 * bitMicros s.cfg.bitRate else 0 } } →
    (s.bus.ownSpoiled = false → exec (.frameDiscarded cause) s = .next (discarded.bump .receiveErrors))
    ∧ (s.bus.ownSpoiled = true → exec (.frameDiscarded cause) s = .next discarded))
  ∧ (∀ (s : State) (cause : DiscardCause) (before after : List QueuedFrame) (q : QueuedFrame),
    s.bus.state = .contending → s.bus.queue = before ++ q :: after → q.contended = true →
    (∀ x ∈ before, x.contended = false) → (∀ x ∈ after, x.contended = false) →
    ∃ t, exec (.frameDiscarded cause) s = .next t
      ∧ t.bus = { s.bus with
          state := .waitGap
          gap := if cause = DiscardCause.short then 11 * bitMicros s.cfg.bitRate else 0
          queue := t.bus.queue, removalHeld := t.bus.removalHeld, removalAnswer := t.bus.removalAnswer }
      ∧ s.contentionLostFor before q after t
      ∧ t.counter .receiveErrors = countUp (s.counter .receiveErrors)
      ∧ (∀ n, n ≠ .receiveErrors → n ≠ .framesDropped → n ≠ .claimsWithdrawn → t.counter n = s.counter n)
      ∧ t.status.flags = s.status.flags
      ∧ t = { s with bus := t.bus, table := t.table, status := t.status, handed := t.handed })

/-- R31, R108, R110: what the queue does with a YIELD: refused in HALTED; joined at its place below the frames
of its value or more; into a full queue by evicting the last CLAIM not being contended, or else dropped. -/
def Obligations.YieldIsOfferedToTheQueue : Prop :=
  ∀ (s : State) (slot : Slot) (reason : YieldReason), s.loader.role = some .drop →
    s.bus.queue.Pairwise (fun x y => y.frame.value ≤ x.frame.value) →
    (s.loader.mode = .halted → exec (.yieldRequest slot reason) s = .next { s with
      handed := s.handed.erase (.yieldRequest slot reason) })
    ∧ (s.loader.mode = .announcing ∨ s.loader.mode = .active → s.bus.queue.length < 16 →
      ∃ before after, s.bus.queue = before ++ after
        ∧ (∀ x ∈ before, 40960 + s.stationId ≤ x.frame.value)
        ∧ (∀ x ∈ after, x.frame.value < 40960 + s.stationId)
        ∧ exec (.yieldRequest slot reason) s = .next { s with
          bus := { s.bus with queue := before
            ++ ⟨⟨40960 + s.stationId, .yield slot reason⟩, some s.cfg.yieldLifetime, 0, false, none⟩ :: after }
          handed := s.handed.erase (.yieldRequest slot reason) })
    ∧ (s.loader.mode = .announcing ∨ s.loader.mode = .active → 16 ≤ s.bus.queue.length →
      (∀ q ∈ s.bus.queue, q.contended = true ∨ claimSlot q.frame.body = none) →
      exec (.yieldRequest slot reason) s = .next (({ s with
        handed := s.handed.erase (.yieldRequest slot reason) }).bump .framesDropped))
    ∧ (∀ before after q claimed, s.loader.mode = .announcing ∨ s.loader.mode = .active →
      16 ≤ s.bus.queue.length → s.bus.queue = before ++ q :: after → q.contended = false →
      claimSlot q.frame.body = some claimed →
      (∀ x ∈ after, x.contended = true ∨ claimSlot x.frame.body = none) →
      (∀ x ∈ before, claimSlot x.frame.body ≠ some claimed) →
      (∀ x ∈ after, claimSlot x.frame.body ≠ some claimed) →
      ∃ t, exec (.yieldRequest slot reason) s = .next t
        ∧ t.bus.queue.Perm
          (⟨⟨40960 + s.stationId, .yield slot reason⟩, some s.cfg.yieldLifetime, 0, false, none⟩
            :: (before ++ after))
        ∧ t.handed = s.handed.erase (.yieldRequest slot reason) ++ [.claimOutcome claimed .evicted]
        ∧ t.counter .framesDropped = countUp (s.counter .framesDropped)
        ∧ t = { s with bus := { s.bus with queue := t.bus.queue }, status := t.status, handed := t.handed })

/-- R30, R32: at a carrier notice STEM and YIELD counts rise. Each frame whose deadline is then met and that is not
being contended leaves with EXPIRED given to its owner and a count of frames dropped; one being contended holds the
expiry unless it holds an earlier event. A CLAIM's deadline is its remaining distance. That several leave in queue order is
the model's choice (log 39). -/
def Obligations.CarrierNoticeAgesTheQueue : Prop :=
  ∀ (s : State) (slotHere : Slot) (count : QueuedFrame → Nat) (due : QueuedFrame → Bool)
    (leaving : List QueuedFrame), s.loaded →
    (∀ q, count q = match q.frame.body with
      | .stem _ _ _ _ _ => q.count + 1
      | .yield _ _ => q.count + 1
      | .claim _ _ => q.count
      | .lot _ _ => q.count
      | .hello _ => q.count) →
    (∀ q, due q = match q.deadline, claimSlot q.frame.body with
      | none, _ => false
      | some limit, some slot => decide (forwardDistance s.cfg.chainLength slot slotHere ≤ limit)
      | some limit, none => decide (limit ≤ count q)) →
    leaving = s.bus.queue.filter (fun q => due q && !q.contended) →
    ∃ t, exec (.carrierNotice slotHere) s = .next t
      ∧ t.bus = { s.bus with
          queue := (s.bus.queue.filter (fun q => !(due q && !q.contended))).map (fun q => { q with
            count := count q
            heldEvent := if due q = true then some (q.heldEvent.getD .expired) else q.heldEvent }) }
      ∧ t.handed = s.handed.erase (.carrierNotice slotHere)
        ++ leaving.map (fun q => outcomeArrival q.frame.body .expired)
      ∧ t.counter .framesDropped = countUp^[leaving.length] (s.counter .framesDropped)
      ∧ (∀ n, n ≠ .framesDropped → t.counter n = s.counter n)
      ∧ t.status = { s.status with counters := t.status.counters }
      ∧ t = { s with bus := t.bus, status := t.status, handed := t.handed }

/-- R30, R33: a queued frame is removed with REMOVED, at once or, while being contended, held for the
contention's end; a frame being sent answers "in transmission"; one that has ended answers "not queued". The
fields that hold a deferred request and the answer given last, with the frame it names, are the model's (log 16). A
request for another frame made meanwhile leaves the held one standing; what answers it is stated with the contention's
end. -/
def Obligations.RemovalRequestIsAnswered : Prop :=
  ∀ (s : State) (body : FrameBody), s.loaded →
    (∀ before q after, s.bus.queue = before ++ q :: after → sameFrame body q.frame.body = true →
      (∀ x ∈ before, sameFrame body x.frame.body = false) → q.contended = false →
      exec (.removalRequest body) s = .next { s with
        bus := { s.bus with queue := before ++ after, removalAnswer := some ⟨body, .removed⟩ }
        handed := s.handed.erase (.removalRequest body) ++ [outcomeArrival body .removed] })
    ∧ (∀ before q after, s.bus.queue = before ++ q :: after → sameFrame body q.frame.body = true →
      (∀ x ∈ before, sameFrame body x.frame.body = false) → q.contended = true →
      (∀ x ∈ after, x.contended = false) →
      exec (.removalRequest body) s = .next { s with
        bus := { s.bus with
          queue := before ++ { q with heldEvent := some (q.heldEvent.getD .removed) } :: after
          removalHeld := some body, removalAnswer := some ⟨body, .deferred⟩ }
        handed := s.handed.erase (.removalRequest body) })
    ∧ ((∀ q ∈ s.bus.queue, sameFrame body q.frame.body = false) →
      exec (.removalRequest body) s = .next { s with
        bus := { s.bus with removalAnswer := some ⟨body, match s.bus.sending with
          | some f => if sameFrame body f.body = true then .inTransmission else .notQueued
          | none => .notQueued⟩ }
        handed := s.handed.erase (.removalRequest body) })

/-- R30: the transmit queue never holds more than 16 frames nor two CLAIMs for the same slot, and stands in
descending order of contention value: kept by every step. -/
def Obligations.TransmitQueueStaysInOrder : Prop := KeptByEveryStep State.queueSound

/-- R24: the CRC register starts at all ones and takes in the data bits of the contention and payload characters in the
order they are sent, start and stop bits left out, by the polynomial x^16 + x^12 + x^5 + 1; it follows them on the line as
two characters, high half first; and the CRC is good when the register over every character is zero. The characters that
a station puts on the line for a frame whose fields have their widths have a good CRC and are read back as that frame. -/
def Obligations.FrameIsReadBackFromItsCharacters : Prop :=
  (∀ (body : FrameBody) (specific id : Nat) (f : Frame), body.wellFormed = true → specific < 128 → id < 64 →
    f = ⟨contentionValue (kindCode body) specific id, body⟩ →
    parseFrame (frameBytes f) = some f
    ∧ crcGood (frameBytes f) = true
    ∧ (∃ payload, payloadChars (kindCode body) = some payload.length ∧ ∀ sent,
      sent = [BitVec.ofNat 8 (f.value / 256), BitVec.ofNat 8 f.value] ++ payload →
      frameBytes f = sent ++ [(crcOf sent).extractLsb' 8 8, (crcOf sent).extractLsb' 0 8])
    ∧ frameLevels f = (frameBytes f).flatMap (fun c => [true, c.getLsbD 7, c.getLsbD 6, c.getLsbD 5, c.getLsbD 4,
      c.getLsbD 3, c.getLsbD 2, c.getLsbD 1, c.getLsbD 0, false]))
  ∧ (∀ takeIn : Word16 → Bool → Word16,
    (∀ register bit i, i < 16 → (takeIn register bit).getLsbD i
      = ((decide (1 ≤ i) && register.getLsbD (i - 1))
        ^^ ((register.getLsbD 15 ^^ bit) && decide (i = 0 ∨ i = 5 ∨ i = 12)))) →
    ∀ chars, crcOf chars = (chars.flatMap (fun c => [c.getLsbD 7, c.getLsbD 6, c.getLsbD 5, c.getLsbD 4,
      c.getLsbD 3, c.getLsbD 2, c.getLsbD 1, c.getLsbD 0])).foldl takeIn 0xFFFF#16)
  ∧ (∀ chars, crcGood chars = true ↔ crcOf chars = 0#16)

/-- R54, R58, R109, R173: SENT of a STEM counts stems sent, of a YIELD yields sent; a spoiled LOT is offered
again in ACTIVE; every other outcome, and every outcome of a HELLO, does nothing more. That a SENT handed over before
the halt and taken in HALTED is counted is the model's choice (log 31). -/
def Obligations.OutcomesReachTheirOwners : Prop :=
  (∀ (s : State) (slot : Slot) (o : FrameOutcome), s.gaugeLoaded →
    exec (.stemOutcome slot o) s = .next (if o = .sent then
      ({ s with handed := s.handed.erase (.stemOutcome slot o) }).bump .stemsSent
      else { s with handed := s.handed.erase (.stemOutcome slot o) }))
  ∧ (∀ (s : State) (slot : Slot) (r : YieldReason) (o : FrameOutcome), s.dropLoaded →
    exec (.yieldOutcome slot r o) s = .next (if o = .sent then
      ({ s with handed := s.handed.erase (.yieldOutcome slot r o) }).bump .yieldsSent
      else { s with handed := s.handed.erase (.yieldOutcome slot r o) }))
  ∧ (∀ (s : State) (o : FrameOutcome), exec (.helloOutcome o) s = .next { s with
    handed := s.handed.erase (.helloOutcome o) })
  ∧ (∀ (s : State) (l : Nat) (last : Slot) (o : FrameOutcome), s.loader.role = some .gauge →
    (o ≠ .spoiled ∨ s.loader.mode ≠ .active → exec (.lotOutcome l last o) s = .next { s with
      handed := s.handed.erase (.lotOutcome l last o) })
    ∧ (o = .spoiled → s.loader.mode = .active → s.bus.queue.length < 16 →
      ∃ t, exec (.lotOutcome l last o) s = .next t
        ∧ t.bus.queue.Perm (⟨⟨16384 + s.stationId, .lot l last⟩, none, 0, false, none⟩ :: s.bus.queue)
        ∧ t = { s with bus := { s.bus with queue := t.bus.queue }
                       handed := s.handed.erase (.lotOutcome l last o) }))

/-! ### The gauge -/

/-- R42, R45, R53, R55, R57, R59, R62: in ACTIVE a carrier arrival cuts an open window short: its empty positions count
LOST, its outstanding scan is dropped, it is evaluated, its stem issued or held, its pending press taken. It then works
the watch: each entry whose distance has reached U runs out, counted unserved, the class of the last one kept, 15 if
unknown. It opens a window of K empty positions and hands a carrier notice; in ANNOUNCING it hands the notice only. -/
def Obligations.GaugeArrivalOpensAWindow : Prop :=
  ∀ (s base : State) (a : Arrival) (runOuts : List WatchEntry), s.loader.role = some .gauge →
    base = { s with handed := s.handed.erase (.gaugeCarrierArrival a) } →
    runOuts = s.gauge.watch.filter
      (fun e => decide (s.cfg.runOutHorizon ≤ forwardDistance s.cfg.chainLength a.slotHere e.slot)) →
    (s.loader.mode = .announcing → exec (.gaugeCarrierArrival a) s = .next { base with
      handed := base.handed ++ [.carrierNotice a.slotHere] })
    ∧ (s.loader.mode = .active → ∃ t, exec (.gaugeCarrierArrival a) s = .next t
      ∧ t.gauge.window = some ⟨a.slotHere, a.period, 0, List.replicate s.cfg.scanCount none, 0⟩
      ∧ t.gauge.watch = (s.gauge.watch.filter
          (fun e => decide (forwardDistance s.cfg.chainLength a.slotHere e.slot < s.cfg.runOutHorizon))).map
          (fun e => ⟨e.slot, e.cls,
            s.cfg.runOutHorizon - forwardDistance s.cfg.chainLength a.slotHere e.slot⟩)
      ∧ t.counter .unserved = countUp^[runOuts.length] (s.counter .unserved)
      ∧ t.gauge.lastUnserved = (match runOuts.getLast? with
          | none => s.gauge.lastUnserved
          | some e => some (e.cls.getD 15))
      ∧ t.flag .runout = (s.flag .runout || decide (runOuts ≠ []))
      ∧ (s.gauge.window = none →
        t.gauge.port = s.gauge.port ∧ t.gauge.lostRun = s.gauge.lostRun ∧ t.gauge.lotNumber = s.gauge.lotNumber
        ∧ t.gauge.lastStemSlot = s.gauge.lastStemSlot ∧ t.gauge.pendingPress = s.gauge.pendingPress
        ∧ t.bus = s.bus ∧ t.handed = base.handed ++ [.carrierNotice a.slotHere]
        ∧ (∀ n, n ≠ .unserved → t.counter n = s.counter n)
        ∧ (∀ f, f ≠ .runout → t.flag f = s.flag f))
      ∧ (∀ w lost e, s.gauge.window = some w → lost = w.results.countP Option.isNone →
        e = evaluate s.cfg (w.results.map (fun r => r.getD .lost)) →
        t.gauge.port = (match s.gauge.port with
          | .idle => .idle
          | .awaiting timer clocking _ => .awaiting timer clocking none)
        ∧ t.counter .scansLost = countUp^[lost] (s.counter .scansLost)
        ∧ t.gauge.lostRun = (if lost = 0 then s.gauge.lostRun else min (s.gauge.lostRun + lost) 8)
        ∧ t.flag .scanFault = (s.flag .scanFault || decide (lost ≠ 0 ∧ 8 ≤ s.gauge.lostRun + lost))
        ∧ s.windowClosed w.slot e t
        ∧ (∃ v, OffersTaken (s.windowOffers w.slot e) base.queueView v
          ∧ t.bus = { s.bus with queue := v.queue }
          ∧ t.handed = v.handed ++ [.carrierNotice a.slotHere]
          ∧ t.counter .framesDropped = v.dropped)
        ∧ (∀ n, n ∉ windowCounters → n ≠ .unserved → n ≠ .scansLost → t.counter n = s.counter n)
        ∧ (∀ f, f ≠ .runout → f ≠ .scanFault → t.flag f = s.flag f))
      ∧ t.gauge.lotFilter = s.gauge.lotFilter
      ∧ t.status = { s.status with flags := t.status.flags, counters := t.status.counters }
      ∧ t = { s with gauge := t.gauge, bus := t.bus, status := t.status, handed := t.handed })

/-- R38, R39, R40, R41, R43, R45, R185: a scan falling due begins at an IDLE port and is LOST at one still
AWAITING; SRDY starts the clocking; a record or the response limit ends the scan with its result in its
position, and the scan of a cut window ends without one. That scans go on in HALTED until the Gauge Unit takes its own
halt notice is the model's choice (log 31). -/
def Obligations.ScansBeginAndEnd : Prop :=
  (∀ (beams : Nat) (status : BitVec 2) (unused : BitVec 6) (beam : BitVec 8),
    scanResultOf beams (status ++ unused ++ beam) =
      if status = 0#2 then .clear
      else if status = 1#2 then (if beam.toNat < beams then .stem beam.toNat else .blocked)
      else if status = 2#2 then .blocked else .lost)
  ∧ (∀ (s : State) (w : MeasureWindow) (ready : Bool), s.gaugeLoaded → s.gauge.window = some w →
    w.nextScan < s.cfg.scanCount →
    (s.gauge.port = .idle → exec (.scanDue ready) s = .next { s with gauge := { s.gauge with
      window := some { w with nextScan := w.nextScan + 1 }
      port := .awaiting 0 ready (some w.nextScan) } })
    ∧ (s.gauge.port ≠ .idle → (∃ j, j ≠ w.nextScan ∧ w.results[j]? = some none) →
      ∃ t, exec (.scanDue ready) s = .next t
        ∧ t.gauge = { s.gauge with
            window := some { w with
              nextScan := w.nextScan + 1, results := w.results.set w.nextScan (some .lost) }
            lostRun := min (s.gauge.lostRun + 1) 8 }
        ∧ t.counter .scansLost = countUp (s.counter .scansLost)
        ∧ t.flag .scanFault = (s.flag .scanFault || decide (7 ≤ s.gauge.lostRun))
        ∧ (∀ n, n ≠ .scansLost → t.counter n = s.counter n)
        ∧ (∀ f, f ≠ .scanFault → t.flag f = s.flag f)
        ∧ t.status = { s.status with flags := t.status.flags, counters := t.status.counters }
        ∧ t = { s with gauge := t.gauge, status := t.status }))
  ∧ (∀ (s : State) (timer : Ticks) (clocking : Bool) (position : Option Nat), s.gaugeLoaded →
    s.gauge.port = .awaiting timer clocking position →
    exec .srdyAsserted s = .next { s with gauge := { s.gauge with port := .awaiting timer true position } }
    ∧ (position = none → ∀ record,
      exec (.scanRecordComplete record) s = .next { s with gauge := { s.gauge with port := .idle } }
      ∧ exec .responseLimitExpiry s = .next { s with gauge := { s.gauge with port := .idle } })
    ∧ (∀ i w record, position = some i → s.gauge.window = some w →
      (∃ j, j ≠ i ∧ w.results[j]? = some none) →
      (∃ t, exec (.scanRecordComplete record) s = .next t
        ∧ t.gauge = { s.gauge with
            port := .idle
            window := some { w with
              results := w.results.set i (some (scanResultOf s.cfg.beams record)) }
            lostRun := if scanResultOf s.cfg.beams record = .lost then min (s.gauge.lostRun + 1) 8 else 0 }
        ∧ t.counter .scansLost = (if scanResultOf s.cfg.beams record = .lost
            then countUp (s.counter .scansLost) else s.counter .scansLost)
        ∧ t.flag .scanFault = (s.flag .scanFault
            || decide (scanResultOf s.cfg.beams record = .lost ∧ 7 ≤ s.gauge.lostRun))
        ∧ (∀ n, n ≠ .scansLost → t.counter n = s.counter n)
        ∧ (∀ f, f ≠ .scanFault → t.flag f = s.flag f)
        ∧ t.status = { s.status with flags := t.status.flags, counters := t.status.counters }
        ∧ t = { s with gauge := t.gauge, status := t.status })
      ∧ (∃ t, exec .responseLimitExpiry s = .next t
        ∧ t.gauge = { s.gauge with
            port := .idle
            window := some { w with results := w.results.set i (some .lost) }
            lostRun := min (s.gauge.lostRun + 1) 8 }
        ∧ t.counter .scansLost = countUp (s.counter .scansLost)
        ∧ t.flag .scanFault = (s.flag .scanFault || decide (7 ≤ s.gauge.lostRun))
        ∧ (∀ n, n ≠ .scansLost → t.counter n = s.counter n)
        ∧ (∀ f, f ≠ .scanFault → t.flag f = s.flag f)
        ∧ t.status = { s.status with flags := t.status.flags, counters := t.status.counters }
        ∧ t = { s with gauge := t.gauge, status := t.status })))

/-- R47 to R52: the outcome of a window's results: empty, UNMEASURED, UNSTEADY, SHORT, or the class whose
bound the length of the lower median reaches. -/
def Obligations.WindowIsEvaluatedByTheRules : Prop :=
  ∀ (cfg : StationConfig) (results : List ScanResult),
    (evaluate cfg results = .empty ↔ ∀ r ∈ results, r = .clear)
    ∧ (∀ beams : List Nat, beams.Pairwise (fun x y => x ≤ y) → beams.Perm (results.filterMap validBeam) →
      ¬ (∀ r ∈ results, r = .clear) →
      (beams.length < cfg.validMinimum → evaluate cfg results = .stem 0 0 .unmeasured)
      ∧ (∀ length, cfg.validMinimum ≤ beams.length →
        length = min ((cfg.gripOffset + (beams.getD ((beams.length - 1) / 2) 0 + 1) * cfg.beamPitch + 5) / 10)
          2047 →
        (cfg.spreadLimit < beams.getLastD 0 - beams.headD 0 →
          evaluate cfg results = .stem 0 length .unsteady)
        ∧ (beams.getLastD 0 - beams.headD 0 ≤ cfg.spreadLimit →
          cfg.classBounds.Pairwise (fun x y => x < y) →
          ((∀ b ∈ cfg.classBounds, length < b) → evaluate cfg results = .stem 0 length .short)
          ∧ (∀ lower upper, cfg.classBounds = lower ++ upper → lower ≠ [] → (∀ b ∈ lower, b ≤ length) →
            (∀ b ∈ upper, length < b) → evaluate cfg results = .stem lower.length length .none))))

/-- R38, R39, R43, R44, R47, R53, R57: the result that fills a window's last position closes it, whether a record, the
response limit or a scan skipped at a busy port gives it: an empty carrier is counted; a stem is counted held while
HOLD is asserted, and is otherwise offered as a STEM with its reject counted; a pending press then offers its LOT and
advances the lot number. The offers are taken as R31 gives, in a full queue too. -/
def Obligations.LastScanIssuesTheStem : Prop :=
  ∀ (s : State) (c : Instr) (port : ScanPort) (i : Nat) (r : ScanResult) (w : MeasureWindow)
    (results : List (Option ScanResult)) (e : Evaluation),
    s.loader.role = some .gauge → s.loader.mode = .active → s.gauge.window = some w →
    ((∃ timer clocking record, c = .scanRecordComplete record ∧ r = scanResultOf s.cfg.beams record
        ∧ s.gauge.port = .awaiting timer clocking (some i) ∧ port = .idle)
      ∨ (∃ timer clocking, c = .responseLimitExpiry ∧ r = .lost
        ∧ s.gauge.port = .awaiting timer clocking (some i) ∧ port = .idle)
      ∨ (∃ ready, c = .scanDue ready ∧ r = .lost ∧ i = w.nextScan ∧ w.nextScan < s.cfg.scanCount
        ∧ s.gauge.port ≠ .idle ∧ port = s.gauge.port)) →
    results = w.results.set i (some r) → results.all Option.isSome = true →
    e = evaluate s.cfg (results.map (fun x => x.getD .lost)) →
    ∃ t, exec c s = .next t
      ∧ t.gauge = { s.gauge with
          port := port, window := none
          lostRun := if r = .lost then min (s.gauge.lostRun + 1) 8 else 0
          lotNumber := t.gauge.lotNumber, lastStemSlot := t.gauge.lastStemSlot
          pendingPress := t.gauge.pendingPress }
      ∧ s.windowClosed w.slot e t
      ∧ (∃ v, OffersTaken (s.windowOffers w.slot e) s.queueView v
        ∧ t.bus = { s.bus with queue := v.queue } ∧ t.handed = v.handed ∧ t.counter .framesDropped = v.dropped)
      ∧ t.counter .scansLost = (if r = .lost then countUp (s.counter .scansLost) else s.counter .scansLost)
      ∧ (∀ n, n ∉ windowCounters → n ≠ .scansLost → t.counter n = s.counter n)
      ∧ t.flag .scanFault = (s.flag .scanFault || decide (r = .lost ∧ 7 ≤ s.gauge.lostRun))
      ∧ (∀ f, f ≠ .scanFault → t.flag f = s.flag f)
      ∧ t.status = { s.status with flags := t.status.flags, counters := t.status.counters }
      ∧ t = { s with gauge := t.gauge, bus := t.bus, status := t.status, handed := t.handed }

/-- R56, R57: a LOT press is discarded outside ACTIVE, waits for an open window, and is otherwise taken: a LOT
frame names the last stem slot, or the slot here, or is left out in UNSYNCED; the lot number advances. R31: into a full
queue the LOT evicts the last CLAIM not being contended or is dropped, and the lot number advances all the same. A press
named in released stands for the assertion and its width, the pin as last reported (log 3). -/
def Obligations.LotPressEndsTheLot : Prop :=
  ∀ s : State, s.gaugeLoaded → s.gauge.lotFilter.admitsEdge = true →
    (s.loader.mode ≠ .active → exec .lotPress s = .next { s with gauge := { s.gauge with lotFilter := .held } })
    ∧ (s.loader.mode = .active → s.gauge.window ≠ none → exec .lotPress s = .next { s with
      gauge := { s.gauge with lotFilter := .held, pendingPress := true } })
    ∧ (s.loader.mode = .active → s.gauge.window = none → s.gauge.lastStemSlot = none →
      s.tracker.state = .unsynced → exec .lotPress s = .next { s with gauge := { s.gauge with
        lotFilter := .held, pendingPress := false, lotNumber := (s.gauge.lotNumber + 1) % 16 } })
    ∧ (∀ last, s.loader.mode = .active → s.gauge.window = none →
      (s.gauge.lastStemSlot = some last
        ∨ (s.gauge.lastStemSlot = none ∧ s.tracker.state ≠ .unsynced ∧ s.tracker.slotHere = some last)) →
      ∃ t v, exec .lotPress s = .next t
        ∧ OffersTaken [⟨⟨16384 + s.stationId, .lot s.gauge.lotNumber last⟩, none, 0, false, none⟩] s.queueView v
        ∧ t.bus = { s.bus with queue := v.queue } ∧ t.handed = v.handed ∧ t.counter .framesDropped = v.dropped
        ∧ (∀ n, n ≠ .framesDropped → t.counter n = s.counter n)
        ∧ t.status = { s.status with counters := t.status.counters }
        ∧ t = { s with
          gauge := { s.gauge with
            lotFilter := .held, pendingPress := false, lastStemSlot := none
            lotNumber := (s.gauge.lotNumber + 1) % 16 }
          bus := t.bus, status := t.status, handed := t.handed })

/-- R60, R61, R63: what the issue watch does with the station's own STEM, with a CLAIM and with a YIELD; a STEM past the
horizon runs out at once (R62). A STEM named while the tracker is UNSYNCED, which the part never issues, is taken at slot
here 0 by the model's reading (log 20). -/
def Obligations.WatchTakesHeardFrames : Prop :=
  ∀ (s : State) (slot : Slot) (cls : Nat) (others : List WatchEntry) (passed : Nat),
    s.loader.role = some .gauge → s.loader.mode = .active →
    others = s.gauge.watch.filter (fun e => e.slot != slot) →
    passed = forwardDistance s.cfg.chainLength (s.tracker.slotHere.getD 0) slot →
    exec (.gaugeClaimHeard slot) s = .next { s with
      gauge := { s.gauge with watch := others }, handed := s.handed.erase (.gaugeClaimHeard slot) }
    ∧ (others.length < 128 → passed < s.cfg.runOutHorizon →
      exec (.gaugeStemHeard slot cls) s = .next { s with
        gauge := { s.gauge with watch := others ++ [⟨slot, some cls, s.cfg.runOutHorizon - passed⟩] }
        handed := s.handed.erase (.gaugeStemHeard slot cls) })
    ∧ (others.length < 128 → s.cfg.runOutHorizon ≤ passed →
      exec (.gaugeStemHeard slot cls) s = .next ((({ s with
        gauge := { s.gauge with watch := others, lastUnserved := some cls }
        handed := s.handed.erase (.gaugeStemHeard slot cls) }).bump .unserved).raise .runout))
    ∧ (128 ≤ others.length → exec (.gaugeStemHeard slot cls) s = .next (({ s with
        gauge := { s.gauge with watch := others }
        handed := s.handed.erase (.gaugeStemHeard slot cls) }).bump .watchOverflow))
    ∧ ((others ≠ s.gauge.watch ∨ s.tracker.state = .unsynced ∨ s.cfg.runOutHorizon ≤ passed) →
      exec (.gaugeYieldHeard slot) s = .next { s with handed := s.handed.erase (.gaugeYieldHeard slot) })
    ∧ (others = s.gauge.watch → s.tracker.state ≠ .unsynced → passed < s.cfg.runOutHorizon →
      (others.length < 128 → exec (.gaugeYieldHeard slot) s = .next { s with
        gauge := { s.gauge with watch := others ++ [⟨slot, none, s.cfg.runOutHorizon - passed⟩] }
        handed := s.handed.erase (.gaugeYieldHeard slot) })
      ∧ (128 ≤ others.length → exec (.gaugeYieldHeard slot) s = .next (({ s with
        handed := s.handed.erase (.gaugeYieldHeard slot) }).bump .watchOverflow)))

/-- R41, R59: the watch holds at most 128 entries and no slot twice, and the lost run stops at 8: kept by
every step. -/
def Obligations.IssueWatchStaysBounded : Prop := KeptByEveryStep State.watchSound

/-! ### The flight table -/

/-- R69, R81: a STEM is ignored, late, a duplicate or admitted at its place with a pass asked for; a LOT closes
its lot at once or is recorded at its place, a full list first firing its nearest record. That a record goes after the
older ones of its last slot, and that of two nearest ones for one last slot the older fires, is the model's choice
(log 34). So is the place of an entry or record that joins between a slip and the table's own taking of it: before the
first one farther by the distances of now (log 38). -/
def Obligations.HeardStemsAndLotsAreRecorded : Prop :=
  (∀ (s : State) (slot : Slot) (cls lotNo : Nat), s.loader.role = some .drop →
    (s.loader.mode ≠ .active ∨ s.tracker.state ≠ .tracking ∨ (∀ e ∈ s.cfg.services, e.cls ≠ cls) →
      exec (.flightTableStem slot cls lotNo) s = .next { s with
        handed := s.handed.erase (.flightTableStem slot cls lotNo) })
    ∧ (s.loader.mode = .active → s.tracker.state = .tracking → (∃ e ∈ s.cfg.services, e.cls = cls) →
      (s.rem slot = 0 ∨ s.cfg.depth < s.rem slot →
        exec (.flightTableStem slot cls lotNo) s = .next (({ s with
          handed := s.handed.erase (.flightTableStem slot cls lotNo) }).bump .lateStems))
      ∧ (1 ≤ s.rem slot → s.rem slot ≤ s.cfg.depth → (∃ e ∈ s.table.entries, e.slot = slot) →
        exec (.flightTableStem slot cls lotNo) s = .next (({ s with
          handed := s.handed.erase (.flightTableStem slot cls lotNo) }).bump .duplicateStems))
      ∧ (1 ≤ s.rem slot → s.rem slot ≤ s.cfg.depth → (∀ e ∈ s.table.entries, e.slot ≠ slot) →
        ∃ before after, s.table.entries = before ++ after
          ∧ (∀ x ∈ before, s.rem x.slot ≤ s.rem slot)
          ∧ (∀ x, after.head? = some x → s.rem slot < s.rem x.slot)
          ∧ exec (.flightTableStem slot cls lotNo) s = .next { s with
            table := { s.table with entries := before ++ ⟨slot, cls, lotNo, .unclaimed⟩ :: after }
            handed := s.handed.erase (.flightTableStem slot cls lotNo) ++ [.passRequest] })))
  ∧ (∀ (s : State) (lotNo : Nat) (last : Slot) (others : List LotClose), s.loader.role = some .drop →
    others = s.table.lotCloses.filter (fun r => r.lot != lotNo) →
    (s.loader.mode ≠ .active → exec (.flightTableLot lotNo last) s = .next { s with
      handed := s.handed.erase (.flightTableLot lotNo last) })
    ∧ (s.loader.mode = .active → s.tracker.state = .unsynced →
      exec (.flightTableLot lotNo last) s = .next { s with
        handed := s.handed.erase (.flightTableLot lotNo last) ++ [.closeLot lotNo] })
    ∧ (s.loader.mode = .active → s.tracker.state ≠ .unsynced →
      (s.rem last = 0 ∨ s.cfg.depth < s.rem last →
        exec (.flightTableLot lotNo last) s = .next { s with
          table := { s.table with lotCloses := others }
          handed := s.handed.erase (.flightTableLot lotNo last) ++ [.closeLot lotNo] })
      ∧ (1 ≤ s.rem last → s.rem last ≤ s.cfg.depth → others.length < 4 →
        ∃ before after, others = before ++ after
          ∧ (∀ x ∈ before, s.rem x.lastSlot ≤ s.rem last)
          ∧ (∀ x, after.head? = some x → s.rem last < s.rem x.lastSlot)
          ∧ exec (.flightTableLot lotNo last) s = .next { s with
            table := { s.table with lotCloses := before ++ ⟨lotNo, last⟩ :: after }
            handed := s.handed.erase (.flightTableLot lotNo last) })
      ∧ (∀ nearer nearest further, 1 ≤ s.rem last → s.rem last ≤ s.cfg.depth →
        others = nearer ++ nearest :: further → 4 ≤ others.length →
        (∀ x ∈ nearer, s.rem nearest.lastSlot < s.rem x.lastSlot) →
        (∀ x ∈ further, s.rem nearest.lastSlot ≤ s.rem x.lastSlot) →
        ∃ before after, nearer ++ further = before ++ after
          ∧ (∀ x ∈ before, s.rem x.lastSlot ≤ s.rem last)
          ∧ (∀ x, after.head? = some x → s.rem last < s.rem x.lastSlot)
          ∧ exec (.flightTableLot lotNo last) s = .next { s with
            table := { s.table with lotCloses := before ++ ⟨lotNo, last⟩ :: after }
            handed := s.handed.erase (.flightTableLot lotNo last) ++ [.closeLot nearest.lot] })))

/-- R70, R71, R74: the rows of the tables for a heard CLAIM and a heard YIELD. A withdrawal removes a queued
CLAIM at once and waits on one in transmission. In the withdrawal carried out at once the field `removalAnswer` is the
model's own, and that no outcome REMOVED is handed over is the model's choice (log 16). -/
def Obligations.HeardClaimsAndYieldsMoveEntries : Prop :=
  ∀ (s : State) (slot : Slot) (cradle : CradleId) (reason : YieldReason) (sender : Nat),
    s.loader.role = some .drop → s.loader.mode = .active →
    (s.entry? slot = none → exec (.flightTableClaim slot cradle sender) s = .next { s with
      handed := s.handed.erase (.flightTableClaim slot cradle sender) })
    ∧ (∀ e, s.entry? slot = some e →
      (sender ≠ s.stationId → e.state = .unclaimed ∨ e.state = .yielded →
        exec (.flightTableClaim slot cradle sender) s = .next { s with
          table := { s.table with entries := s.table.entries.map (fun (x : FlightEntry) =>
            if x.slot = slot then { x with state := .other sender } else x) }
          handed := s.handed.erase (.flightTableClaim slot cradle sender) })
      ∧ (∀ c y w before q after, sender ≠ s.stationId → e.state = .tentative c y w →
        s.bus.queue = before ++ q :: after → claimSlot q.frame.body = some slot → q.contended = false →
        (∀ x ∈ before, claimSlot x.frame.body ≠ some slot) →
        exec (.flightTableClaim slot cradle sender) s = .next (({ s with
          bus := { s.bus with queue := before ++ after, removalAnswer := some ⟨.claim slot c, .removed⟩ }
          table := { s.table with entries := s.table.entries.map (fun (x : FlightEntry) =>
            if x.slot = slot then { x with state := .other sender } else x) }
          handed := s.handed.erase (.flightTableClaim slot cradle sender) ++ ([.returnCount c] : List Instr) }).bump
            .claimsWithdrawn))
      ∧ (∀ c y w f, sender ≠ s.stationId → e.state = .tentative c y w →
        (∀ q ∈ s.bus.queue, claimSlot q.frame.body ≠ some slot) → s.bus.sending = some f →
        claimSlot f.body = some slot → ∃ t, exec (.flightTableClaim slot cradle sender) s = .next t
          ∧ t.table.entries = s.table.entries.map (fun (x : FlightEntry) =>
            if x.slot = slot then { x with state := .tentative c y w } else x)
          ∧ t.handed = s.handed.erase (.flightTableClaim slot cradle sender) ∧ t.status = s.status
          ∧ t.bus.queue = s.bus.queue)
      ∧ (∀ c w, sender = s.stationId → e.state = .tentative c none w →
        exec (.flightTableClaim slot cradle sender) s = .next (({ s with
          table := { s.table with entries := s.table.entries.map (fun (x : FlightEntry) =>
            if x.slot = slot then { x with state := .mine c } else x) }
          handed := s.handed.erase (.flightTableClaim slot cradle sender) ++ ([.win c] : List Instr) }).bump .claimsWon))
      ∧ (∀ c y w, sender = s.stationId → e.state = .tentative c (some y) w →
        ∃ t, exec (.flightTableClaim slot cradle sender) s = .next t
          ∧ t.table.entries = s.table.entries.map (fun (x : FlightEntry) =>
            if x.slot = slot then { x with state := .released } else x)
          ∧ t.handed = s.handed.erase (.flightTableClaim slot cradle sender)
            ++ [.win c, .miss c, .yieldRequest slot y]
          ∧ t.counter .claimsWon = countUp (s.counter .claimsWon)
          ∧ t = { s with table := t.table, handed := t.handed, status := t.status })
      ∧ ((∃ z, e.state = .other z) ∨ (sender ≠ s.stationId ∧ ∃ c, e.state = .mine c)
          ∨ (sender = s.stationId ∧ (e.state = .unclaimed ∨ e.state = .yielded ∨ e.state = .released
            ∨ ∃ c, e.state = .mine c)) →
        exec (.flightTableClaim slot cradle sender) s = .next (({ s with
          handed := s.handed.erase (.flightTableClaim slot cradle sender) }).bump .conflicts))
      ∧ (sender ≠ s.stationId → e.state = .released →
        exec (.flightTableClaim slot cradle sender) s = .next { s with
          handed := s.handed.erase (.flightTableClaim slot cradle sender) }))
    ∧ (∀ base, base = (if sender = s.stationId
        then { s with handed := s.handed.erase (.flightTableYield slot reason sender) }
        else ({ s with handed := s.handed.erase (.flightTableYield slot reason sender) }).bump .yieldsHeard) →
      (∀ e, s.entry? slot = some e → e.state = .other sender →
        exec (.flightTableYield slot reason sender) s = .next { base with
          table := { s.table with entries := s.table.entries.map (fun (x : FlightEntry) =>
            if x.slot = slot then { x with state := .yielded } else x) }
          handed := base.handed ++ [.passRequest] })
      ∧ (∀ e z, s.entry? slot = some e → e.state = .other z → z ≠ sender →
        exec (.flightTableYield slot reason sender) s = .next (base.bump .conflicts))
      ∧ ((∀ e, s.entry? slot = some e → ∀ z, e.state ≠ .other z) →
        exec (.flightTableYield slot reason sender) s = .next base))

/-- R74, R77, R78, R79, R82: at a carrier arrival the entry at distance 0 leaves, a MINE one as a release record, a
TENTATIVE one withdrawn; at a slip every entry at distance 0 or beyond D leaves, a MINE one yielded VOID. The claim
deadline then withdraws TENTATIVE entries from distance 1 to Hc by where their CLAIM stands; the others stay. The
lot-close records that have reached the station fire; at a slip those beyond D fire too, and both lists take the order
of the new distances. That a withdrawal joins one that waits and leaves it its target, that a CLAIM whose end is still
to be taken counts as in transmission, that records fire in the new order, and that the deadline takes the entries in
table order, are the model's choices (log 16, log 28, log 20, log 39). -/
def Obligations.CarrierArrivalPassesEntries : Prop :=
  ∀ (s : State) (a : Arrival), s.loader.role = some .drop → s.loader.mode = .active →
    (s.table.entries.map (fun e => e.slot)).Nodup → s.queueSound →
    (a.slip = false → ∃ t entries after, exec (.flightTableCarrierArrival a) s = .next t
      ∧ s.arrivalTaken a.slotHere (fun e => s.remAt a.slotHere e.slot == 0) (passOperations a.period)
        (s.handed.erase (.flightTableCarrierArrival a)) entries after t
      ∧ t.table = ⟨entries, s.table.lotCloses.filter (fun r => s.remAt a.slotHere r.lastSlot != 0)⟩
      ∧ t.handed = after ++ (s.table.lotCloses.filter (fun r => s.remAt a.slotHere r.lastSlot == 0)).map
        (fun r => Instr.closeLot r.lot)
      ∧ t = { s with bus := t.bus, table := t.table, handed := t.handed, status := t.status })
    ∧ (∀ gone : Slot → Bool, a.slip = true →
      (∀ slot, gone slot = (s.remAt a.slotHere slot == 0 || decide (s.cfg.depth < s.remAt a.slotHere slot))) →
      ∃ t entries after, ∃ fired : List LotClose, exec (.flightTableCarrierArrival a) s = .next t
        ∧ s.arrivalTaken a.slotHere (fun e => gone e.slot) slipOperations
          (s.handed.erase (.flightTableCarrierArrival a)) entries after t
        ∧ t.table.entries.Perm entries
        ∧ t.table.entries.Pairwise (fun x y => s.remAt a.slotHere x.slot ≤ s.remAt a.slotHere y.slot)
        ∧ t.table.lotCloses.Perm (s.table.lotCloses.filter (fun r => !gone r.lastSlot))
        ∧ t.table.lotCloses.Pairwise
          (fun x y => s.remAt a.slotHere x.lastSlot ≤ s.remAt a.slotHere y.lastSlot)
        ∧ fired.Perm (s.table.lotCloses.filter (fun r => gone r.lastSlot))
        ∧ fired.Pairwise (fun x y => s.remAt a.slotHere x.lastSlot ≤ s.remAt a.slotHere y.lastSlot)
        ∧ t.handed = after ++ fired.map (fun r => Instr.closeLot r.lot)
        ∧ t = { s with bus := t.bus, table := t.table, handed := t.handed, status := t.status })

/-- R74, R75, R89, R104, R129, R131: at every hold assertion in ACTIVE held is set and the three hold notices go out;
each MINE entry becomes RELEASED with MISS and YIELD HOLD, and each TENTATIVE claim is withdrawn by where its CLAIM
stands: removed from the queue or ended, UNCLAIMED with RETURN; being contended, the withdrawal waits; transmitted, the
entry keeps its claim with the pending yield. A clear notice does the same, with VOID, for the entries of its cradle
while that is SEALED with pending VOID, and nothing else. The withdrawal that waits, the outcome REMOVED not handed
over, the CLAIM whose end is still to be taken, the late clear notice and its taking of the entries in table order, and
the notices of a hold handed over before its RETURN and MISS, are the model's choices (log 16, log 28, log 29, log 39, log
40). -/
def Obligations.HoldAndClearGiveStemsBack : Prop :=
  (∀ s : State, s.loader.role = some .drop → s.engine.holdFilter ≠ .stopped → s.engine.held = false →
    (s.loader.mode = .announcing ∨ s.loader.mode = .halted → exec .holdAssertion s = .next { s with
      pins := { s.pins with hold := true }, engine := ⟨true, .steady⟩ })
    ∧ (s.loader.mode = .active → ∃ t, exec .holdAssertion s = .next t
      ∧ t.engine = ⟨true, .steady⟩ ∧ t.pins = { s.pins with hold := true }
      ∧ (∃ later, t.handed = s.handed
        ++ [.holdNoticeCradle true, .holdNoticeReleaseUnit true, .holdNoticeTiePort true] ++ later)
      ∧ (∀ e ∈ t.table.entries, ∀ c, e.state ≠ .mine c)
      ∧ ((s.table.entries.map (fun e => e.slot)).Nodup → s.queueSound →
        s.gaveBack .hold (fun _ => true)
          (s.handed ++ [.holdNoticeCradle true, .holdNoticeReleaseUnit true, .holdNoticeTiePort true]) t
        ∧ t = { s with
          pins := t.pins, engine := t.engine, bus := t.bus, table := t.table, handed := t.handed
          status := t.status })))
  ∧ (∀ (s : State) (c : CradleId), s.loader.role = some .drop → s.loader.mode = .active →
    ((s.cradle c).state = .sealed → (s.cradle c).pending = .void →
      ∃ t, exec (.clearNoticeFlightTable c) s = .next t
        ∧ (∀ e ∈ t.table.entries, e.state ≠ .mine c)
        ∧ ((s.table.entries.map (fun e => e.slot)).Nodup → s.queueSound →
          s.gaveBack .void (fun e => match e.state with
              | .tentative d _ _ => d == c
              | .mine d => d == c
              | .unclaimed => false
              | .other _ => false
              | .yielded => false
              | .released => false)
            (s.handed.erase (.clearNoticeFlightTable c)) t
          ∧ t = { s with bus := t.bus, table := t.table, handed := t.handed, status := t.status }))
    ∧ ((s.cradle c).state ≠ .sealed ∨ (s.cradle c).pending ≠ .void →
      exec (.clearNoticeFlightTable c) s = .next { s with
        handed := s.handed.erase (.clearNoticeFlightTable c) }))

/-- R74, R76: a CLAIM's outcome withdraws its TENTATIVE entry, to RELEASED at SPOILED and to UNCLAIMED at
EXPIRED, EVICTED, REFUSED and REMOVED, with RETURN and a count; SENT and DISCARDED do nothing. An outstanding outcome
taken while a later CLAIM for the slot is under way belongs to an older frame and does nothing: the model's reading
(log 28). -/
def Obligations.ClaimOutcomeWithdrawsTheEntry : Prop :=
  ∀ (s : State) (slot : Slot) (o : FrameOutcome) (underWay : Prop), s.loader.role = some .drop →
    s.loader.mode = .active →
    (underWay ↔ (∃ q ∈ s.bus.queue, claimSlot q.frame.body = some slot)
      ∨ (∃ f, s.bus.sending = some f ∧ claimSlot f.body = some slot)
      ∨ (∃ i ∈ s.handed.erase (.claimOutcome slot o), isOwnEnd s.stationId slot i = true)) →
    ((∀ e, s.entry? slot = some e → ∀ c y w, e.state ≠ .tentative c y w) ∨ o = .sent ∨ o = .discarded →
      exec (.claimOutcome slot o) s = .next { s with handed := s.handed.erase (.claimOutcome slot o) })
    ∧ (.claimOutcome slot o ∈ s.handed → underWay →
      exec (.claimOutcome slot o) s = .next { s with handed := s.handed.erase (.claimOutcome slot o) })
    ∧ (∀ e c y w (target : EntryState), .claimOutcome slot o ∉ s.handed ∨ ¬ underWay →
      s.entry? slot = some e → e.state = .tentative c y w →
      (o = .spoiled ∧ target = .released)
        ∨ ((o = .expired ∨ o = .evicted ∨ o = .refused ∨ o = .removed) ∧ target = .unclaimed) →
      exec (.claimOutcome slot o) s = .next (({ s with
        table := { s.table with entries := s.table.entries.map (fun (x : FlightEntry) =>
          if x.slot = slot then { x with state := target } else x) }
        handed := s.handed.erase (.claimOutcome slot o) ++ ([.returnCount c] : List Instr) }).bump .claimsWithdrawn))

/-- R67, R80: no slot stands twice in the flight table, and the lot-close list holds at most four records,
one for each lot: kept by every step. -/
def Obligations.FlightTableKeepsSlotsApart : Prop := KeptByEveryStep State.tableSound

/-! ### Claiming -/

/-- R89, R91, R107: what the Claim Engine does at a carrier arrival, at a change of the HOLD level and at a hold
release. That a revert of HOLD discards a change which has already lasted its 2,000 ticks but has not been taken is the
model's choice (log 30), as is handing over the release's notices before its pass request (log 40). -/
def Obligations.ClaimEngineArrivalsAndHold : Prop :=
  (∀ (s : State) (a : Arrival), s.loader.role = some .drop →
    (s.loader.mode = .active → exec (.claimEngineCarrierArrival a) s = .next { s with
      handed := s.handed.erase (.claimEngineCarrierArrival a)
        ++ [.carrierNotice a.slotHere, .passRequest] })
    ∧ (s.loader.mode = .announcing → exec (.claimEngineCarrierArrival a) s = .next { s with
      handed := s.handed.erase (.claimEngineCarrierArrival a) ++ [.carrierNotice a.slotHere] }))
  ∧ (∀ (s : State) (level : Bool), s.dropLoaded →
    (level = s.engine.held → s.engine.holdFilter ≠ .stopped →
      exec (.holdLevelChange level) s = .next { s with
        pins := { s.pins with hold := level }, engine := ⟨s.engine.held, .steady⟩ })
    ∧ (level ≠ s.engine.held → s.engine.holdFilter = .steady →
      exec (.holdLevelChange level) s = .next { s with
        pins := { s.pins with hold := level }, engine := ⟨s.engine.held, .changing 0⟩ })
    ∧ (level ≠ s.engine.held → ∀ n, s.engine.holdFilter = .changing n →
      exec (.holdLevelChange level) s = .next { s with pins := { s.pins with hold := level } }))
  ∧ (∀ (s : State) (level : Bool), s.loader.role = some .gauge →
    exec (.holdLevelChange level) s = .next { s with pins := { s.pins with hold := level } })
  ∧ (∀ s : State, s.loader.role = some .drop → s.engine.holdFilter ≠ .stopped → s.engine.held = true →
    (s.loader.mode = .announcing ∨ s.loader.mode = .halted → exec .holdRelease s = .next { s with
      pins := { s.pins with hold := false }, engine := ⟨false, .steady⟩ })
    ∧ (s.loader.mode = .active → exec .holdRelease s = .next { s with
      pins := { s.pins with hold := false }, engine := ⟨false, .steady⟩
      handed := s.handed ++ [.holdNoticeCradle false, .holdNoticeReleaseUnit false,
        .holdNoticeTiePort false, .passRequest] }))

/-- R90, R92 to R101, R114: a pass request is discarded outside ACTIVE or while held, and otherwise judges the slots of
the table in order, each on what the ones before it have left. An entry that is no candidate, finds no cradle, no room
in the queue or too small a flap gap is left alone. A candidate goes to the OPEN cradle of its class and lot with room,
the greater sum first, or binds an EMPTY one, A before B, by a RESERVE judged as the cradle's rules give, and queues a
CLAIM with the key of its band and fill; a CLAIM refused is withdrawn at once. That a stem counts for the flap gap while
its hand-over is under way is the model's choice (log 21). -/
def Obligations.PassClaimsACandidate : Prop :=
  (∀ s : State, s.loader.role = some .drop → s.loader.mode ≠ .active ∨ s.engine.held = true →
    exec .passRequest s = .next { s with handed := s.handed.erase .passRequest })
  ∧ (∀ s : State, s.loader.role = some .drop → s.loader.mode = .active → s.engine.held = false →
    exec .passRequest s = .next ((s.table.entries.map (fun e => e.slot)).foldl (fun t slot => t.judgeEntry slot)
      { s with handed := s.handed.erase .passRequest }))
  ∧ (∀ (s : State) (slot : Slot), s.entry? slot = none → s.judgeEntry slot = s)
  ∧ (∀ (s : State) (slot : Slot) (e : FlightEntry), s.entry? slot = some e →
    ((∀ x ∈ s.cfg.services, x.cls ≠ e.cls) ∨ s.loader.mode ≠ .active ∨ s.engine.held = true
        ∨ s.flag .txFault = true ∨ s.tracker.state ≠ .tracking ∨ (e.state ≠ .unclaimed ∧ e.state ≠ .yielded)
        ∨ s.rem slot ≤ s.cfg.claimHorizon ∨ s.cfg.depth < s.rem slot ∨ 16 ≤ s.bus.queue.length →
      s.judgeEntry slot = s)
    ∧ (∀ service size, s.cfg.services.find? (fun x => x.cls == e.cls) = some service →
      size = service.bunchSize →
      (service.secondary = true → s.cfg.claimHorizon + s.cfg.secondaryDepth < s.rem slot →
        s.judgeEntry slot = s)
      ∧ ((∀ c, ¬ s.isChosen e.cls e.lot size c) → s.judgeEntry slot = s)
      ∧ (∀ c, s.isChosen e.cls e.lot size c → ¬ s.gapFree slot c → s.judgeEntry slot = s)
      ∧ (∀ c k n reserved, s.loader.mode = .active → s.engine.held = false → s.flag .txFault = false →
        s.tracker.state = .tracking → e.state = .unclaimed ∨ e.state = .yielded →
        s.cfg.claimHorizon < s.rem slot → s.rem slot ≤ s.cfg.depth →
        service.secondary = false ∨ s.rem slot ≤ s.cfg.claimHorizon + s.cfg.secondaryDepth →
        s.bus.queue.length < 16 → s.isChosen e.cls e.lot size c → s.gapFree slot c → 1 ≤ size → k = s.cradle c →
        (k.state = .opened ∧ k.pending = .none)
          ∨ k = ⟨.empty, none, 0, 0, 0, 0, false, false, .none, false, k.uncertain, none⟩ →
        n = k.placed + k.won + k.tentative →
        reserved = s.setCradle c { k with
          state := if n + 1 = size then .sealed else .opened
          binding := some ⟨e.cls, e.lot⟩, tentative := k.tentative + 1 } →
        ((∀ q ∈ s.bus.queue, claimSlot q.frame.body ≠ some slot) → ∃ t, s.judgeEntry slot = t
          ∧ t.bus.queue.Perm (⟨⟨24576 + ((if service.secondary = true then 0 else if n + 1 = size then 3
              else if 1 ≤ n then 2 else 1) * 32 + 31 * n / size) * 64 + s.stationId, .claim slot c⟩,
              some s.cfg.claimHorizon, 0, false, none⟩ :: s.bus.queue)
          ∧ t = { reserved with
              table := { s.table with entries := s.table.entries.map (fun (x : FlightEntry) =>
                if x.slot = slot then { x with state := .tentative c none none } else x) }
              bus := { s.bus with queue := t.bus.queue } })
        ∧ ((∃ q ∈ s.bus.queue, claimSlot q.frame.body = some slot) → s.judgeEntry slot = (({ reserved with
            table := { s.table with entries := s.table.entries.map (fun (x : FlightEntry) =>
              if x.slot = slot then { x with state := .unclaimed } else x) }
            handed := s.handed ++ ([.returnCount c] : List Instr) }).bump .claimsWithdrawn)))))

/-! ### Cradles -/

/-- R115 to R118: WIN, RETURN, MISS and PLACE change the counts of an OPEN or SEALED cradle, which is then
judged by the first row of R118 that applies. -/
def Obligations.CountOperationsAreJudgedByTheRows : Prop :=
  ∀ (s base : State) (c : CradleId) (i : Instr) (k after : Cradle) (size : Nat),
    s.dropLoaded → k = s.cradle c → k.state = .opened ∨ k.state = .sealed → size = s.bunchSize k →
    ((i = .win c ∧ 0 < k.tentative
        ∧ after = { k with tentative := k.tentative - 1, won := k.won + 1 })
      ∨ (i = .returnCount c ∧ 0 < k.tentative ∧ after = { k with tentative := k.tentative - 1 })
      ∨ (i = .miss c ∧ 0 < k.won ∧ after = { k with won := k.won - 1 })
      ∨ (i = .place c ∧ 0 < k.won ∧ after = { k with
          won := k.won - 1
          placed := if k.pending = .void then k.placed else k.placed + 1
          idleCount := 0, idleDue := false, stale := false })) →
    base = ({ s with handed := s.handed.erase i }).setCradle c after →
    (k.pending = .void → after.won = 0 → after.tentative = 0 → exec i s = .next (base.enterEmpty c))
    ∧ (k.pending = .void → ¬ (after.won = 0 ∧ after.tentative = 0) → exec i s = .next base)
    ∧ (k.pending ≠ .void → after.placed = size → exec i s = .next (base.enterReady c))
    ∧ (k.pending = .close → after.placed ≠ size → after.won = 0 → after.tentative = 0 →
      exec i s = .next (if 1 ≤ after.placed then base.enterReady c else base.enterEmpty c))
    ∧ (k.pending = .close → after.placed ≠ size → ¬ (after.won = 0 ∧ after.tentative = 0) →
      exec i s = .next base)
    ∧ (k.pending = .none → after.placed ≠ size →
      (after.placed + after.won + after.tentative = size →
        exec i s = .next (base.setCradle c { after with state := .sealed }))
      ∧ (after.placed + after.won + after.tentative ≠ size →
        after.placed + after.won + after.tentative = 0 → exec i s = .next (base.enterEmpty c))
      ∧ (∀ opened, after.placed + after.won + after.tentative ≠ size →
        after.placed + after.won + after.tentative ≠ 0 →
        opened = (if k.state = .sealed then (base.setCradle c { after with state := .opened }).hand .passRequest
          else base.setCradle c { after with state := .opened }) →
        (after.idleDue = false ∨ after.won ≠ 0 ∨ after.tentative ≠ 0 ∨ s.cradles.held = true →
          exec i s = .next opened)
        ∧ (after.idleDue = true → after.won = 0 → after.tentative = 0 → s.cradles.held = false →
          exec i s = .next (if s.shortMinimum k ≤ after.placed then opened.enterReady c
            else (opened.setCradle c { after with state := .opened, idleDue := false, stale := true }).raise
              .stale))))

/-- R119: what the entry to READY does, that the first bunch after reset is numbered 1, and that the cradle's class, lot,
placed count and uncertain flag are then the contents of its tie command. Beside it, what an entry to EMPTY leaves of the
cradle, and its pass request, as R120 gives them. -/
def Obligations.ReadyAndEmptyEntries : Prop :=
  ∀ (s : State) (c : CradleId) (k : Cradle), k = s.cradle c →
    (∃ t, s.enterReady c = t
      ∧ t.cradle c = { k with
          state := .ready
          bunch := some (s.cradles.bunchSequence + 1#16)
          short := decide (k.placed < s.bunchSize k)
          idleDue := false, stale := false, pending := .none }
      ∧ t.cradle (otherCradle c) = s.cradle (otherCradle c)
      ∧ t.cradles.bunchSequence = s.cradles.bunchSequence + 1#16
      ∧ t.cradles.tieQueue = s.cradles.tieQueue ++ [c]
      ∧ t.counter .shortBunches = (if k.placed < s.bunchSize k then countUp (s.counter .shortBunches)
          else s.counter .shortBunches)
      ∧ t.counter .fullBunches = (if k.placed < s.bunchSize k then s.counter .fullBunches
          else countUp (s.counter .fullBunches))
      ∧ t.handed = s.handed ++ (if s.cradles.tieQueue = [] then [.queueNotice] else [])
      ∧ (∀ n, n ≠ .shortBunches → n ≠ .fullBunches → t.counter n = s.counter n)
      ∧ t.status.flags = s.status.flags
      ∧ t = { s with cradles := t.cradles, status := t.status, handed := t.handed }
      ∧ t.cradles.held = s.cradles.held
      ∧ (∀ b, k.binding = some b → tieRecordOf c (t.cradle c)
        = ⟨c, b.cls, b.lot, k.placed, s.cradles.bunchSequence + 1#16, decide (k.placed < s.bunchSize k), k.uncertain⟩))
    ∧ State.reset.cradles.bunchSequence = 0#16 ∧ ((State.reset.enterReady c).cradle c).bunch = some 1#16
    ∧ s.enterEmpty c = { s.setCradle c ⟨.empty, none, 0, 0, 0, 0, false, false, .none, false, false, none⟩ with
        handed := s.handed ++ [.passRequest] }

/-- R121, R122, R124, R126: idle counts and the idle close at a carrier arrival, the close of a lot, and the
hold notice, each taken by cradle A and then by cradle B, in whatever states the two are. R124 and R126 name that order;
at a carrier arrival it is the model's choice (log 32). With an idle limit of 1 the due mark at the arrival after a PLACE
follows R121, where R123 says that no close falls due: the model's choice (log 35). -/
def Obligations.CradlesCloseByIdleLotAndHold : Prop :=
  (∀ (s base : State) (a : Arrival), s.loader.role = some .drop → s.loader.mode = .active →
    base = { s with handed := s.handed.erase (.cradleCarrierArrival a) } →
    (s.cradles.held = true ∨ (s.cradles.a.state ≠ .opened ∧ s.cradles.b.state ≠ .opened) →
      exec (.cradleCarrierArrival a) s = .next base)
    ∧ (s.cradles.held = false → ∃ m t, base.idleCounted .a m ∧ m.idleCounted .b t
      ∧ exec (.cradleCarrierArrival a) s = .next t))
  ∧ (∀ (s base : State) (lotNo : Nat), s.dropLoaded →
    base = { s with handed := s.handed.erase (.closeLot lotNo) } →
    ((∀ c b, (s.cradle c).binding = some b → b.lot ≠ lotNo) → exec (.closeLot lotNo) s = .next base)
    ∧ (∃ m t, base.lotClosed lotNo .a m ∧ m.lotClosed lotNo .b t ∧ exec (.closeLot lotNo) s = .next t)
    ∧ ((∀ c, (s.cradle c).state = .opened ∧ (s.cradle c).won = 0 ∧ (s.cradle c).tentative = 0
        ∧ ∃ b, (s.cradle c).binding = some b ∧ b.lot = lotNo) →
      exec (.closeLot lotNo) s = .next ((base.enterReady .a).enterReady .b)))
  ∧ (∀ (s base : State) (held : Bool), s.loader.role = some .drop → s.loader.mode = .active →
    base = { s with
      cradles := { s.cradles with held := held }, handed := s.handed.erase (.holdNoticeCradle held) } →
    (held = true → exec (.holdNoticeCradle held) s = .next base)
    ∧ (held = false → ∃ m t, base.idleCloseJudged .a m ∧ m.idleCloseJudged .b t
      ∧ exec (.holdNoticeCradle held) s = .next t))

/-- R128, R129: a qualified press on CLR is taken according to the cradle's state. A press named in released stands for
the assertion and its width, the pin as last reported (log 3). -/
def Obligations.ClearIsTakenByTheCradleState : Prop :=
  ∀ (s base : State) (c : CradleId) (k : Cradle), s.dropLoaded → (s.clearFilter c).admitsEdge = true →
    k = s.cradle c → base = s.setClearFilter c .held →
    (k.state = .empty ∨ k.state = .tying ∨ (k.state = .sealed ∧ k.pending = .void) →
      exec (.clear c) s = .next base)
    ∧ (k.state = .faulted → exec (.clear c) s = .next (base.enterEmpty c))
    ∧ (∀ others, k.state = .ready → others = s.cradles.tieQueue.filter (fun d => d != c) →
      (s.cradles.tieQueue.head? ≠ some c ∨ (∀ d, others.head? = some d → (s.cradle d).state ≠ .ready) →
        exec (.clear c) s = .next ((({ base with
          cradles := { base.cradles with tieQueue := others } }).enterEmpty c).bump .voidedBunches))
      ∧ (∀ d, s.cradles.tieQueue.head? = some c → others.head? = some d → (s.cradle d).state = .ready →
        exec (.clear c) s = .next (((({ base with
          cradles := { base.cradles with tieQueue := others } }).enterEmpty c).bump .voidedBunches).hand
            .queueNotice)))
    ∧ (∀ noticed, k.state = .opened ∨ (k.state = .sealed ∧ k.pending ≠ .void) →
      noticed = ((base.setCradle c { k with
        state := .sealed, pending := .void, placed := 0, idleDue := false, stale := false
        short := false }).bump .voidedBunches).handAll [.clearNoticeFlightTable c, .clearNoticeRelease c] →
      (k.won = 0 → k.tentative = 0 → exec (.clear c) s = .next (noticed.enterEmpty c))
      ∧ (k.won ≠ 0 ∨ k.tentative ≠ 0 → exec (.clear c) s = .next noticed))

/-- R132, R134: a tie result takes the TYING cradle from the tie queue, to EMPTY at TIED and REWORK, to FAULTED with
TIE_FAULT at the others; a READY cradle that becomes the head gives a queue notice. For a cradle that is not TYING it
has no effect, by the model's choice (log 12). R135: an uncertain mark sets the flag of the cradle it names, in every
state of the cradle. -/
def Obligations.TieResultAndUncertainMark : Prop :=
  ∀ (s base : State) (c : CradleId) (code : TieCode), s.dropLoaded →
    exec (.uncertainMark c) s = .next
      (({ s with handed := s.handed.erase (.uncertainMark c) }).setCradle c
        { s.cradle c with uncertain := true })
    ∧ ((s.cradle c).state ≠ .tying → exec (.tieResult c code) s = .next { s with
      handed := s.handed.erase (.tieResult c code) })
    ∧ (∀ others ended, (s.cradle c).state = .tying →
      others = s.cradles.tieQueue.filter (fun d => d != c) →
      base = { s with
        cradles := { s.cradles with tieQueue := others }
        handed := s.handed.erase (.tieResult c code) } →
      ended = (if code = .tied ∨ code = .rework then base.enterEmpty c
        else (base.setCradle c { s.cradle c with state := .faulted }).raise .tieFault) →
      ((∀ d, others.head? = some d → (s.cradle d).state ≠ .ready) →
        exec (.tieResult c code) s = .next ended)
      ∧ (∀ d, others.head? = some d → (s.cradle d).state = .ready →
        exec (.tieResult c code) s = .next (ended.hand .queueNotice)))

/-- R132: the tie queue holds each READY or TYING cradle exactly once and no other, and only its head is TYING:
kept by every step. -/
def Obligations.TieQueueHoldsReadyAndTying : Prop := KeptByEveryStep State.tieQueueSound

/-- R113: placed + won + tentative never exceeds the bunch size of the bound class, and an EMPTY cradle has
all three at zero and no binding: kept by every step. -/
def Obligations.CradleSumsStayWithinTheBunch : Prop := KeptByEveryStep State.cradlesSound

/-! ### Releases -/

/-- R140, R149, R150: a hand-over with no pulse on and no record waiting is cancelled while held or for a cleared
cradle, made in DELAY with its delay and width, or skipped for width. R141, R142: the carrier step cuts a pulse and ends
a record in DELAY; a hand-over that comes before its pulse's arrival takes the step first. The model's choices are that
held is asked before a void pending (log 17), that the field `lastStep` keeps the step to once for each pulse (log 18),
and that a hand-over in HALTED ends with MISS (log 13). -/
def Obligations.HandoverAndCarrierStep : Prop :=
  (∀ (s base : State) (slot : Slot) (c : CradleId) (period delay : Ticks), s.loader.role = some .drop →
    delay = period * s.cfg.releaseFraction / 256 →
    base = { s with handed := s.handed.erase (.releaseHandover slot c period) } →
    (s.loader.mode = .halted → exec (.releaseHandover slot c period) s = .next { base with
      handed := base.handed ++ ([.miss c] : List Instr) })
    ∧ (s.loader.mode = .active →
      (s.release.rel = false ∧ s.release.delayed = none) ∨ s.release.lastStep = some slot →
      (s.release.held = true → exec (.releaseHandover slot c period) s = .next { base with
        release := { s.release with lastStep := some slot }
        handed := base.handed ++ ([.miss c, .yieldRequest slot .hold] : List Instr) })
      ∧ (s.release.held = false → (s.cradle c).state = .sealed → (s.cradle c).pending = .void →
        exec (.releaseHandover slot c period) s = .next { base with
          release := { s.release with lastStep := some slot }
          handed := base.handed ++ ([.miss c, .yieldRequest slot .void] : List Instr) })
      ∧ (s.release.held = false → (s.cradle c).state ≠ .sealed ∨ (s.cradle c).pending ≠ .void →
        (s.cfg.releaseGuard + delay + s.cfg.pulseMinimum ≤ period →
          exec (.releaseHandover slot c period) s = .next { base with release := { s.release with
            lastStep := some slot
            delayed := some ⟨slot, c, period,
              min s.cfg.pulseWidth (period - s.cfg.releaseGuard - delay), .delay, false⟩
            delayTimer := some delay
            flap := if s.release.window = none then c else s.release.flap
            settle := if s.release.window = none ∧ s.release.flap ≠ c then some s.cfg.settleTime
              else s.release.settle } })
        ∧ (period < s.cfg.releaseGuard + delay + s.cfg.pulseMinimum →
          exec (.releaseHandover slot c period) s = .next (({ base with
            release := { s.release with lastStep := some slot }
            handed := base.handed ++ ([.miss c, .yieldRequest slot .skip] : List Instr) }).bump .skips))))
    ∧ (s.loader.mode = .active → s.release.lastStep ≠ some slot → ∃ stepped,
      exec (.releaseCarrierStep ⟨slot, period, false⟩)
          { s with handed := .releaseCarrierStep ⟨slot, period, false⟩ :: s.handed } = .next stepped
        ∧ stepped.release.rel = false ∧ stepped.release.delayed = none
        ∧ stepped.release.lastStep = some slot
        ∧ exec (.releaseHandover slot c period) s = exec (.releaseHandover slot c period) stepped))
  ∧ (∀ (s : State) (a : Arrival), s.loader.role = some .drop → s.loader.mode = .active →
    (a.slip = false → s.release.lastStep = some a.slotHere → exec (.releaseCarrierStep a) s = .next { s with
      handed := s.handed.erase (.releaseCarrierStep a) })
    ∧ (a.slip = true ∨ s.release.lastStep ≠ some a.slotHere →
      ∃ t, exec (.releaseCarrierStep a) s = .next t
        ∧ t.release = { s.release with
            rel := false
            pulseTimer := if s.release.rel = true then none else s.release.pulseTimer
            window := if s.release.rel = true then
                s.release.window.map (fun w => { w with
                  record := w.record.map (fun r => { r with phase := .window }) })
              else s.release.window
            delayed := none
            delayTimer := if s.release.delayed = none then s.release.delayTimer else none
            lastStep := if a.slip = true then none else some a.slotHere }
        ∧ t.handed = s.handed.erase (.releaseCarrierStep a) ++ (match s.release.delayed with
            | none => []
            | some r => [.miss r.cradle, .yieldRequest r.slot (if a.slip = true then .void else .skip)])
        ∧ t.counter .shortReleases = (if s.release.rel = true then countUp (s.counter .shortReleases)
            else s.counter .shortReleases)
        ∧ t.counter .skips = (if s.release.delayed ≠ none ∧ a.slip = false then countUp (s.counter .skips)
            else s.counter .skips)
        ∧ (∀ n, n ≠ .shortReleases → n ≠ .skips → t.counter n = s.counter n)
        ∧ t.status.flags = s.status.flags
        ∧ t = { s with release := t.release, status := t.status, handed := t.handed }))

/-- R143, R145, R146: the delay expiry starts the pulse with a new window, or skips the release for the flap; the
pulse's end, the settle expiry and the window's expiry, which resolves an unresolved record by a miss and judges
the flap. In HALTED, before the Release Unit takes its own halt notice, these expiries act as in ACTIVE by the model's
choice (log 13). -/
def Obligations.PulseWindowAndFlapTimers : Prop :=
  ∀ s : State, s.dropLoaded →
    exec .flapSettleExpiry s = .next { s with release := { s.release with settle := none } }
    ∧ (s.release.rel = true → exec .pulseEndExpiry s = .next { s with release := { s.release with
      rel := false, pulseTimer := none
      window := s.release.window.map (fun w => { w with
        record := w.record.map (fun r => { r with phase := .window }) }) } })
    ∧ (∀ r, s.release.delayed = some r →
      (s.release.flap = r.cradle → s.release.settle = none → ∃ t, exec .delayExpiry s = .next t
        ∧ t.release = { s.release with
            delayed := none, delayTimer := none, rel := true, pulseTimer := some r.width
            window := some ⟨r.cradle, s.cfg.confirmTime, 0, some { r with phase := .pulse }⟩ }
        ∧ t.handed = s.handed ++ (match s.release.window.bind (fun w => w.record) with
            | none => []
            | some q => if q.cleared = true then [.miss q.cradle]
              else [.miss q.cradle, .yieldRequest q.slot .miss])
        ∧ t.counter .misses = (match s.release.window.bind (fun w => w.record) with
            | none => s.counter .misses
            | some q => if q.cleared = true then s.counter .misses else countUp (s.counter .misses))
        ∧ (∀ n, n ≠ .misses → t.counter n = s.counter n) ∧ t.status.flags = s.status.flags
        ∧ t = { s with release := t.release, status := t.status, handed := t.handed })
      ∧ (s.release.flap ≠ r.cradle ∨ s.release.settle ≠ none → exec .delayExpiry s = .next (({ s with
        release := { s.release with delayed := none, delayTimer := none }
        handed := s.handed ++ ([.miss r.cradle, .yieldRequest r.slot .skip] : List Instr) }).bump .skips)))
    ∧ (∀ w, s.release.window = some w → ∃ t, exec .confirmationWindowExpiry s = .next t
      ∧ (s.release.delayed = none → t.release = { s.release with window := none })
      ∧ (∀ r, s.release.delayed = some r → t.release = { s.release with
          window := none, flap := r.cradle
          settle := if r.cradle = s.release.flap then s.release.settle else some s.cfg.settleTime })
      ∧ t.handed = s.handed ++ (match w.record with
          | none => []
          | some q => if q.cleared = true then [.miss q.cradle]
            else [.miss q.cradle, .yieldRequest q.slot .miss])
      ∧ t.counter .misses = (match w.record with
          | none => s.counter .misses
          | some q => if q.cleared = true then s.counter .misses else countUp (s.counter .misses))
      ∧ (∀ n, n ≠ .misses → t.counter n = s.counter n) ∧ t.status.flags = s.status.flags
      ∧ t = { s with release := t.release, status := t.status, handed := t.handed })

/-- R147, R152: the rows for a filtered GATE edge: placement, stray, double; without effect in HALTED. That a stray in
the window of a cleared record leaves the edge count at 0 is the model's reading (log 14). An edge named in released stands
for the assertion and its width, the pin as last reported (log 3). -/
def Obligations.GateEdgesAreJudged : Prop :=
  ∀ (s base : State), s.dropLoaded → s.tracker.gateFilter.admitsEdge = true →
    base = { s with tracker := { s.tracker with gateFilter := .held } } →
    (s.loader.mode = .halted → exec .filteredGateEdge s = .next base)
    ∧ (s.loader.mode ≠ .halted →
      (s.release.window = none → exec .filteredGateEdge s = .next (({ base with
        handed := s.handed ++ ([.uncertainMark s.release.flap] : List Instr) }).bump .strays))
      ∧ (∀ w r, s.release.window = some w → w.edges = 0 → w.record = some r →
        (r.cleared = false → exec .filteredGateEdge s = .next (({ base with
          release := { s.release with window := some { w with edges := 1, record := none } }
          handed := s.handed ++ ([.place w.cradle] : List Instr) }).bump .releases))
        ∧ (r.cleared = true → exec .filteredGateEdge s = .next (({ base with
          handed := s.handed ++ ([.uncertainMark w.cradle] : List Instr) }).bump .strays)))
      ∧ (∀ w, s.release.window = some w → 1 ≤ w.edges → exec .filteredGateEdge s = .next (({ base with
        release := { s.release with window := some { w with edges := 2 } }
        handed := s.handed ++ ([.uncertainMark w.cradle] : List Instr) }).bump .doubles)))

/-- R149, R150: a hold notice sets the held copy and an assertion cancels a record in DELAY; a clear notice
cancels one for its cradle, and marks the window's record for it cleared. -/
def Obligations.HoldAndClearReachReleases : Prop :=
  ∀ s : State, s.loader.role = some .drop → s.loader.mode = .active →
    exec (.holdNoticeReleaseUnit false) s = .next { s with
      release := { s.release with held := false }
      handed := s.handed.erase (.holdNoticeReleaseUnit false) }
    ∧ (s.release.delayed = none → exec (.holdNoticeReleaseUnit true) s = .next { s with
      release := { s.release with held := true }
      handed := s.handed.erase (.holdNoticeReleaseUnit true) })
    ∧ (∀ r, s.release.delayed = some r → exec (.holdNoticeReleaseUnit true) s = .next { s with
      release := { s.release with held := true, delayed := none, delayTimer := none }
      handed := s.handed.erase (.holdNoticeReleaseUnit true) ++ ([.miss r.cradle, .yieldRequest r.slot .hold] : List Instr) })
    ∧ (∀ c marked, marked = s.release.window.map (fun w => { w with
        record := w.record.map (fun r => if r.cradle = c then { r with cleared := true } else r) }) →
      ((∀ r, s.release.delayed = some r → r.cradle ≠ c) → exec (.clearNoticeRelease c) s = .next { s with
        release := { s.release with window := marked }
        handed := s.handed.erase (.clearNoticeRelease c) })
      ∧ (∀ r, s.release.delayed = some r → r.cradle = c → exec (.clearNoticeRelease c) s = .next { s with
        release := { s.release with window := marked, delayed := none, delayTimer := none }
        handed := s.handed.erase (.clearNoticeRelease c) ++ ([.miss c, .yieldRequest r.slot .void] : List Instr) }))

/-- R140, R144, R145: while a window is open FLAP names its cradle, REL is on exactly while its timer runs, and
no pulse is longer than W: kept by every step. -/
def Obligations.ReleaseUnitStaysSound : Prop := KeptByEveryStep State.releaseSound

/-! ### Tying -/

/-- R133, R155, R165: a queue notice or a hold release starts a tie on a READY head in ACTIVE with the port IDLE
and not held, and nothing else; a hold assertion starts none. R156, R157, R158, R164: the shifting of the ABORT
and of the TIE record, and what TACK and TDONE edges do in each phase. R133, R156, R185: the 40 bits on TDAT while
SENDING, most significant first: the TIE of the cradle that started it, or an ABORT with the fields of the last TIE
sent, of cradle A and zeros where none has been. -/
def Obligations.TieStartsAndIsAcknowledged : Prop :=
  (∀ (s : State) (held : Bool), s.loader.role = some .drop → s.loader.mode = .active →
    (s.tie.phase ≠ .idle ∨ s.tie.held = true ∨ (∀ c, s.cradles.tieQueue.head? = some c →
        (s.cradle c).state ≠ .ready) →
      exec .queueNotice s = .next { s with handed := s.handed.erase .queueNotice })
    ∧ (held = true ∨ s.tie.phase ≠ .idle ∨ (∀ c, s.cradles.tieQueue.head? = some c →
        (s.cradle c).state ≠ .ready) →
      exec (.holdNoticeTiePort held) s = .next { s with
        tie := { s.tie with held := held }, handed := s.handed.erase (.holdNoticeTiePort held) })
    ∧ (∀ c k b n started, s.tie.phase = .idle → s.cradles.tieQueue.head? = some c → k = s.cradle c →
      k.state = .ready → k.binding = some b → k.bunch = some n →
      started = { s with
        tie := { s.tie with
          phase := .sending, abortStep := s.tie.abortPending, shift := some 4, held := false
          current := some ⟨c, b.cls, b.lot, k.placed, n, k.short, k.uncertain⟩ } } →
      (s.tie.held = false → exec .queueNotice s = .next (({ started with
        handed := s.handed.erase .queueNotice }).setCradle c { k with state := .tying }))
      ∧ exec (.holdNoticeTiePort false) s = .next (({ started with
        handed := s.handed.erase (.holdNoticeTiePort false) }).setCradle c { k with state := .tying })))
  ∧ (∀ (s : State) (sendTie : TiePort), s.dropLoaded →
    sendTie = { s.tie with
      phase := .sending, abortStep := false, abortPending := false, earlyAck := false, limit := none
      shift := some 4 } →
    (s.tie.phase = .sending → s.tie.abortStep = true →
      exec .recordShifted s = .next { s with tie := if s.tie.earlyAck = true then sendTie
        else { s.tie with phase := .awaitAck, limit := some s.cfg.ackLimit, shift := none } })
    ∧ (s.tie.phase = .sending → s.tie.abortStep = false →
      exec .recordShifted s = .next { s with tie :=
        if s.tie.earlyAck = true then { s.tie with
          phase := .tying, limit := some s.cfg.tieLimit, shift := none, earlyAck := false
          lastRecord := s.tie.current }
        else { s.tie with
          phase := .awaitAck, limit := some s.cfg.ackLimit, shift := none, lastRecord := s.tie.current } })
    ∧ (s.tie.phase = .awaitAck → s.tie.abortStep = true →
      exec .tackEdge s = .next { s with tie := sendTie }
      ∧ exec .ackLimitExpiry s = .next { s with tie := sendTie })
    ∧ (s.tie.phase = .awaitAck → s.tie.abortStep = false →
      exec .tackEdge s = .next { s with tie := { s.tie with
        phase := .tying, limit := some s.cfg.tieLimit, shift := none } })
    ∧ (s.tie.phase = .sending → exec .tackEdge s = .next { s with tie := { s.tie with earlyAck := true } })
    ∧ (s.tie.phase = .idle ∨ s.tie.phase = .tying ∨ s.tie.phase = .reading → exec .tackEdge s = .next s)
    ∧ ((s.tie.phase = .awaitAck ∧ s.tie.abortStep = false) ∨ s.tie.phase = .tying →
      exec .tdoneEdge s = .next { s with tie := { s.tie with phase := .reading, limit := none } })
    ∧ ((s.tie.phase = .awaitAck ∧ s.tie.abortStep = true) ∨ s.tie.phase = .idle ∨ s.tie.phase = .sending
        ∨ s.tie.phase = .reading → exec .tdoneEdge s = .next (s.bump .lateDone)))
  ∧ (∀ s : State, s.loader.role = some .drop → s.loader.mode = .active ∨ s.loader.mode = .halted →
    s.tie.phase = .sending →
    (∀ r, s.tie.abortStep = false → s.tie.current = some r → s.tieRecordOut = some (tieBits false r))
    ∧ (∀ r, s.tie.abortStep = true → s.tie.lastRecord = some r → s.tieRecordOut = some (tieBits true r))
    ∧ (s.tie.abortStep = true → s.tie.lastRecord = none →
      s.tieRecordOut = some (BitVec.ofNat 40 (2 ^ 39))))
  ∧ (∀ s : State, (s.tieRecordOut = none → ∀ n, s.tieDataOut n = none)
    ∧ (∀ bits, s.tieRecordOut = some bits →
      ∀ n, n < 40 → s.tieDataOut n = some (bits.getLsbD (39 - n))))

/-- R158 to R163: a tie ends by its ack limit, its tie limit or its status word; the return code, the fault
code, the counters, the count check, the abort-pending mark and the tie result. The next tie does not start
while the tie queue's head is not READY. That the start is judged on the return to IDLE before the tie result is taken,
so that the ended cradle is still the head and this step starts no tie, is the model's choice between the two orders that
R162 allows (log 36). -/
def Obligations.TieEndsWithAResult : Prop :=
  ∀ (s : State) (r : TieRecord) (i : Instr) (code : TieCode) (fault : BitVec 4) (mismatch : Bool),
    s.dropLoaded → s.tie.current = some r →
    (∀ c, s.cradles.tieQueue.head? = some c → (s.cradle c).state ≠ .ready) →
    ((i = .ackLimitExpiry ∧ s.tie.phase = .awaitAck ∧ s.tie.abortStep = false ∧ code = .noAck ∧ fault = 0#4
        ∧ mismatch = false)
      ∨ (i = .tieLimitExpiry ∧ s.tie.phase = .tying ∧ code = .timeout ∧ fault = 0#4 ∧ mismatch = false)
      ∨ (∃ (outcome : BitVec 2) (counted : BitVec 6) (unused : BitVec 4),
        i = .statusWordComplete (outcome ++ counted ++ unused ++ fault) ∧ s.tie.phase = .reading
        ∧ code = (if outcome = 0#2 then .tied else if outcome = 1#2 then .rework else .quit)
        ∧ mismatch = (decide (outcome = 0#2) && decide (counted.toNat ≠ 0)
            && decide (counted.toNat ≠ r.count)))) →
    ∃ t, exec i s = .next t
      ∧ t.tie = { s.tie with
          phase := .idle, abortStep := false, current := none, earlyAck := false, limit := none, shift := none
          abortPending := s.tie.abortPending || decide (code = .noAck ∨ code = .timeout)
          lastCode := some code, lastFault := fault }
      ∧ t.handed = s.handed ++ [.tieResult r.cradle code]
      ∧ t.counter .tied = (if code = .tied then countUp (s.counter .tied) else s.counter .tied)
      ∧ t.counter .reworked = (if code = .rework then countUp (s.counter .reworked) else s.counter .reworked)
      ∧ t.counter .tieFaults = (if code = .quit ∨ code = .noAck ∨ code = .timeout
          then countUp (s.counter .tieFaults) else s.counter .tieFaults)
      ∧ t.counter .countMismatches = (if mismatch = true then countUp (s.counter .countMismatches)
          else s.counter .countMismatches)
      ∧ (∀ n, n ≠ .tied → n ≠ .reworked → n ≠ .tieFaults → n ≠ .countMismatches →
        t.counter n = s.counter n)
      ∧ t.status.flags = s.status.flags
      ∧ t = { s with tie := t.tie, status := t.status, handed := t.handed }

/-! ### The status port -/

/-- R179, R186: an assertion of SSEL copies the status record, 116 bytes at their places, and nothing else
changes; on SSDO the record's bits follow byte by byte, the most significant bit of each first, and bits after the
record read as zero; the release of SSEL ends the read and leaves SSDO released. -/
def Obligations.SnapshotHoldsTheStatusRecord : Prop :=
  ∀ s : State, ∃ bytes, exec .snapshot s = .next { s with status := { s.status with snapshot := some bytes } }
    ∧ exec .sselRelease s = .next { s with status := { s.status with snapshot := none } }
    ∧ bytes.length = 116
    ∧ bytes[0]? = some (match s.loader.role with | none => 0#8 | some .gauge => 1#8 | some .drop => 2#8)
    ∧ (∀ n, s.loader.id = some n → bytes[1]? = some (n.zeroExtend 8))
    ∧ bytes[2]? = some (match s.loader.mode with
        | .loading => 0#8 | .configFault => 1#8 | .announcing => 2#8 | .active => 3#8 | .halted => 4#8)
    ∧ (s.loader.reason < 256 → (bytes[3]?).map BitVec.toNat = some s.loader.reason)
    ∧ bytes[4]? = some (match s.tracker.state with | .unsynced => 0#8 | .tracking => 1#8 | .stalled => 2#8)
    ∧ (s.tracker.slotHere = none → numberOf ((bytes.drop 5).take 2) = 1023)
    ∧ (∀ here, s.tracker.slotHere = some here → here < 65536 →
      numberOf ((bytes.drop 5).take 2) = here)
    ∧ (s.tracker.period < 16777216 → numberOf ((bytes.drop 7).take 3) = s.tracker.period)
    ∧ (∀ place k, s.loader.role = some .drop →
      (place = 10 ∧ k = s.cradles.a) ∨ (place = 19 ∧ k = s.cradles.b) →
      bytes[place]? = some (match k.state with
        | .empty => 0#8 | .opened => 1#8 | .sealed => 2#8 | .ready => 3#8 | .tying => 4#8 | .faulted => 5#8)
      ∧ bytes[place + 1]? = some (match k.binding with | none => 0#8 | some b => BitVec.ofNat 8 b.cls)
      ∧ bytes[place + 2]? = some (match k.binding with | none => 0#8 | some b => BitVec.ofNat 8 b.lot)
      ∧ bytes[place + 3]? = some (BitVec.ofNat 8 k.placed)
      ∧ bytes[place + 4]? = some (BitVec.ofNat 8 k.won)
      ∧ bytes[place + 5]? = some (BitVec.ofNat 8 k.tentative)
      ∧ (∃ marks, bytes[place + 6]? = some marks ∧ marks.getLsbD 0 = k.short ∧ marks.getLsbD 1 = k.uncertain
        ∧ marks.getLsbD 2 = k.stale)
      ∧ numberOf ((bytes.drop (place + 7)).take 2) = (match k.bunch with | none => 0 | some n => n.toNat))
    ∧ (s.loader.role = some .drop →
      bytes[28]? = some (match s.cradles.tieQueue with
        | [] => 0#8 | [.a] => 1#8 | [.b] => 2#8 | .a :: _ => 3#8 | .b :: _ => 4#8)
      ∧ bytes[29]? = some (match s.tie.lastCode with
        | none => 255#8 | some .tied => 0#8 | some .rework => 1#8 | some .quit => 2#8
        | some .noAck => 3#8 | some .timeout => 4#8)
      ∧ bytes[30]? = some (s.tie.lastFault.zeroExtend 8)
      ∧ (bytes.drop 31).take 3 = [0#8, 0#8, 0#8])
    ∧ (s.loader.role = some .gauge →
      (bytes.drop 10).take 21 = List.replicate 21 0#8
      ∧ (bytes.drop 31).take 3 = [BitVec.ofNat 8 s.gauge.lotNumber, BitVec.ofNat 8 s.gauge.watch.length,
        BitVec.ofNat 8 (s.gauge.lastUnserved.getD 255)])
    ∧ (∀ i f, FlagName.all[i]? = some f → (numberOf ((bytes.drop 34).take 2)).testBit i = s.flag f)
    ∧ (∀ i n, CounterName.all[i]? = some n →
      numberOf ((bytes.drop (36 + 2 * i)).take 2) = (s.counter n).toNat)
    ∧ (∀ i j byte, bytes[i]? = some byte → j < 8 →
      State.statusDataOut { s with status := { s.status with snapshot := some bytes } } (8 * i + j)
        = some (byte.getLsbD (7 - j)))
    ∧ (∀ n, 928 ≤ n → State.statusDataOut { s with status := { s.status with snapshot := some bytes } } n
      = some false)
    ∧ (∀ n, State.statusDataOut { s with status := { s.status with snapshot := none } } n = none)

/-- R28, R180: an ACK press clears each flag whose cause no longer holds and no other, and with TX_FAULT the
spoil run; that a press with TX_FAULT clear leaves the spoil run is the model's reading (log 15). R181: the flash timer
turns the flash over, and the lamps follow the cradles or RUNOUT. A press named in released stands for the assertion and
its width, the pin as last reported (log 3). -/
def Obligations.AckPressAndLamps : Prop :=
  (∀ s : State, s.loaded → s.status.ackFilter.admitsEdge = true → ∃ t, exec .ackPress s = .next t
    ∧ t.flag .txFault = false ∧ t.flag .slip = false ∧ t.flag .runout = false
    ∧ t.flag .configFault = s.flag .configFault ∧ t.flag .duplicateId = s.flag .duplicateId
    ∧ t.flag .gaugeConflict = s.flag .gaugeConflict
    ∧ t.flag .busStuck = (s.flag .busStuck && decide (s.bus.state = .stuck))
    ∧ (s.loader.record ≠ none → t.flag .homeMissing
      = (s.flag .homeMissing && decide (s.tracker.homeCount = 2 * s.cfg.chainLength)))
    ∧ t.flag .stale = (s.flag .stale && (s.cradles.a.stale || s.cradles.b.stale))
    ∧ t.flag .tieFault
      = (s.flag .tieFault && decide (s.cradles.a.state = .faulted ∨ s.cradles.b.state = .faulted))
    ∧ t.flag .scanFault = (s.flag .scanFault && decide (s.gauge.lostRun = 8))
    ∧ t.bus = { s.bus with spoilRun := if s.flag .txFault = true then 0 else s.bus.spoilRun }
    ∧ t = { s with bus := t.bus
                   status := { s.status with flags := t.status.flags, ackFilter := .held } })
  ∧ (∀ s : State, s.status.flash ≠ none → exec .lampFlashToggle s = .next { s with
      status := { s.status with flash := some 25000, flashLit := !s.status.flashLit } })
  ∧ (∀ s : State, s.attnOutput = true ↔ ∃ f, s.flag f = true)
  ∧ (∀ s : State,
    (s.dropLoaded → ∀ c, (if c = .a then s.lampA else s.lampB) = (match (s.cradle c).state with
      | .ready => true | .tying => true | .faulted => s.status.flashLit
      | .empty => false | .opened => false | .sealed => false))
    ∧ (s.gaugeLoaded → s.lampA = s.flag .runout ∧ s.lampB = false)
    ∧ (s.loader.mode = .loading ∨ s.loader.mode = .configFault → s.lampA = false ∧ s.lampB = false))

/-- R182: no command but a reset ever lowers a counter: each counter after a command stands where it stood or
higher. -/
def Obligations.CountersNeverFall : Prop :=
  ∀ (c : Instr) (s t : State) (n : CounterName), c ≠ .reset → exec c s = .next t →
    s.counter n ≤ t.counter n
end

