-- ==== Sys2Proof/Laws/State.lean ====
section
/-! SUPPORT. What each update of the state does to each field, as simp lemmas, so that no proof unfolds a
record update. -/

namespace Sys2Proof.Machine

variable (s : State)

/-! ### `State.bump` -/

@[simp] theorem State.bump_pins (n : CounterName) : (s.bump n).pins = s.pins := rfl
@[simp] theorem State.bump_loader (n : CounterName) : (s.bump n).loader = s.loader := rfl
@[simp] theorem State.bump_tracker (n : CounterName) : (s.bump n).tracker = s.tracker := rfl
@[simp] theorem State.bump_bus (n : CounterName) : (s.bump n).bus = s.bus := rfl
@[simp] theorem State.bump_gauge (n : CounterName) : (s.bump n).gauge = s.gauge := rfl
@[simp] theorem State.bump_table (n : CounterName) : (s.bump n).table = s.table := rfl
@[simp] theorem State.bump_engine (n : CounterName) : (s.bump n).engine = s.engine := rfl
@[simp] theorem State.bump_cradles (n : CounterName) : (s.bump n).cradles = s.cradles := rfl
@[simp] theorem State.bump_release (n : CounterName) : (s.bump n).release = s.release := rfl
@[simp] theorem State.bump_tie (n : CounterName) : (s.bump n).tie = s.tie := rfl
@[simp] theorem State.bump_status (n : CounterName) :
    (s.bump n).status = { s.status with counters := s.status.counters.put (countUp (s.status.counters.get n)) n } := rfl
@[simp] theorem State.bump_handed (n : CounterName) : (s.bump n).handed = s.handed := rfl
@[simp] theorem State.bump_now (n : CounterName) : (s.bump n).now = s.now := rfl
@[simp] theorem State.bump_pending (n : CounterName) : (s.bump n).pending = s.pending := rfl
@[simp] theorem State.bump_cfg (n : CounterName) : (s.bump n).cfg = s.cfg := rfl
@[simp] theorem State.bump_stationId (n : CounterName) : (s.bump n).stationId = s.stationId := rfl

/-! ### `State.raise` -/

@[simp] theorem State.raise_pins (f : FlagName) : (s.raise f).pins = s.pins := rfl
@[simp] theorem State.raise_loader (f : FlagName) : (s.raise f).loader = s.loader := rfl
@[simp] theorem State.raise_tracker (f : FlagName) : (s.raise f).tracker = s.tracker := rfl
@[simp] theorem State.raise_bus (f : FlagName) : (s.raise f).bus = s.bus := rfl
@[simp] theorem State.raise_gauge (f : FlagName) : (s.raise f).gauge = s.gauge := rfl
@[simp] theorem State.raise_table (f : FlagName) : (s.raise f).table = s.table := rfl
@[simp] theorem State.raise_engine (f : FlagName) : (s.raise f).engine = s.engine := rfl
@[simp] theorem State.raise_cradles (f : FlagName) : (s.raise f).cradles = s.cradles := rfl
@[simp] theorem State.raise_release (f : FlagName) : (s.raise f).release = s.release := rfl
@[simp] theorem State.raise_tie (f : FlagName) : (s.raise f).tie = s.tie := rfl
@[simp] theorem State.raise_status (f : FlagName) :
    (s.raise f).status = { s.status with flags := s.status.flags.put true f } := rfl
@[simp] theorem State.raise_handed (f : FlagName) : (s.raise f).handed = s.handed := rfl
@[simp] theorem State.raise_now (f : FlagName) : (s.raise f).now = s.now := rfl
@[simp] theorem State.raise_pending (f : FlagName) : (s.raise f).pending = s.pending := rfl
@[simp] theorem State.raise_cfg (f : FlagName) : (s.raise f).cfg = s.cfg := rfl
@[simp] theorem State.raise_stationId (f : FlagName) : (s.raise f).stationId = s.stationId := rfl

/-! ### `State.hand` -/

@[simp] theorem State.hand_pins (i : Instr) : (s.hand i).pins = s.pins := rfl
@[simp] theorem State.hand_loader (i : Instr) : (s.hand i).loader = s.loader := rfl
@[simp] theorem State.hand_tracker (i : Instr) : (s.hand i).tracker = s.tracker := rfl
@[simp] theorem State.hand_bus (i : Instr) : (s.hand i).bus = s.bus := rfl
@[simp] theorem State.hand_gauge (i : Instr) : (s.hand i).gauge = s.gauge := rfl
@[simp] theorem State.hand_table (i : Instr) : (s.hand i).table = s.table := rfl
@[simp] theorem State.hand_engine (i : Instr) : (s.hand i).engine = s.engine := rfl
@[simp] theorem State.hand_cradles (i : Instr) : (s.hand i).cradles = s.cradles := rfl
@[simp] theorem State.hand_release (i : Instr) : (s.hand i).release = s.release := rfl
@[simp] theorem State.hand_tie (i : Instr) : (s.hand i).tie = s.tie := rfl
@[simp] theorem State.hand_status (i : Instr) : (s.hand i).status = s.status := rfl
@[simp] theorem State.hand_handed (i : Instr) : (s.hand i).handed = s.handed ++ [i] := rfl
@[simp] theorem State.hand_now (i : Instr) : (s.hand i).now = s.now := rfl
@[simp] theorem State.hand_pending (i : Instr) : (s.hand i).pending = s.pending := rfl
@[simp] theorem State.hand_cfg (i : Instr) : (s.hand i).cfg = s.cfg := rfl
@[simp] theorem State.hand_stationId (i : Instr) : (s.hand i).stationId = s.stationId := rfl

/-! ### `State.handAll` -/

@[simp] theorem State.handAll_pins (l : List Instr) : (s.handAll l).pins = s.pins := rfl
@[simp] theorem State.handAll_loader (l : List Instr) : (s.handAll l).loader = s.loader := rfl
@[simp] theorem State.handAll_tracker (l : List Instr) : (s.handAll l).tracker = s.tracker := rfl
@[simp] theorem State.handAll_bus (l : List Instr) : (s.handAll l).bus = s.bus := rfl
@[simp] theorem State.handAll_gauge (l : List Instr) : (s.handAll l).gauge = s.gauge := rfl
@[simp] theorem State.handAll_table (l : List Instr) : (s.handAll l).table = s.table := rfl
@[simp] theorem State.handAll_engine (l : List Instr) : (s.handAll l).engine = s.engine := rfl
@[simp] theorem State.handAll_cradles (l : List Instr) : (s.handAll l).cradles = s.cradles := rfl
@[simp] theorem State.handAll_release (l : List Instr) : (s.handAll l).release = s.release := rfl
@[simp] theorem State.handAll_tie (l : List Instr) : (s.handAll l).tie = s.tie := rfl
@[simp] theorem State.handAll_status (l : List Instr) : (s.handAll l).status = s.status := rfl
@[simp] theorem State.handAll_handed (l : List Instr) : (s.handAll l).handed = s.handed ++ l := rfl
@[simp] theorem State.handAll_now (l : List Instr) : (s.handAll l).now = s.now := rfl
@[simp] theorem State.handAll_pending (l : List Instr) : (s.handAll l).pending = s.pending := rfl
@[simp] theorem State.handAll_cfg (l : List Instr) : (s.handAll l).cfg = s.cfg := rfl
@[simp] theorem State.handAll_stationId (l : List Instr) : (s.handAll l).stationId = s.stationId := rfl

/-! ### `State.taken` -/

@[simp] theorem State.taken_pins (i : Instr) : (s.taken i).pins = s.pins := rfl
@[simp] theorem State.taken_loader (i : Instr) : (s.taken i).loader = s.loader := rfl
@[simp] theorem State.taken_tracker (i : Instr) : (s.taken i).tracker = s.tracker := rfl
@[simp] theorem State.taken_bus (i : Instr) : (s.taken i).bus = s.bus := rfl
@[simp] theorem State.taken_gauge (i : Instr) : (s.taken i).gauge = s.gauge := rfl
@[simp] theorem State.taken_table (i : Instr) : (s.taken i).table = s.table := rfl
@[simp] theorem State.taken_engine (i : Instr) : (s.taken i).engine = s.engine := rfl
@[simp] theorem State.taken_cradles (i : Instr) : (s.taken i).cradles = s.cradles := rfl
@[simp] theorem State.taken_release (i : Instr) : (s.taken i).release = s.release := rfl
@[simp] theorem State.taken_tie (i : Instr) : (s.taken i).tie = s.tie := rfl
@[simp] theorem State.taken_status (i : Instr) : (s.taken i).status = s.status := rfl
@[simp] theorem State.taken_handed (i : Instr) : (s.taken i).handed = s.handed.erase i := rfl
@[simp] theorem State.taken_now (i : Instr) : (s.taken i).now = s.now := rfl
@[simp] theorem State.taken_pending (i : Instr) : (s.taken i).pending = s.pending := rfl
@[simp] theorem State.taken_cfg (i : Instr) : (s.taken i).cfg = s.cfg := rfl
@[simp] theorem State.taken_stationId (i : Instr) : (s.taken i).stationId = s.stationId := rfl

/-! ### `State.setPin` -/

@[simp] theorem State.setPin_pins (i : FilteredInput) (v : Bool) : (s.setPin i v).pins = s.pins.set v i := rfl
@[simp] theorem State.setPin_loader (i : FilteredInput) (v : Bool) : (s.setPin i v).loader = s.loader := rfl
@[simp] theorem State.setPin_tracker (i : FilteredInput) (v : Bool) :
    (s.setPin i v).tracker = s.tracker := rfl
@[simp] theorem State.setPin_bus (i : FilteredInput) (v : Bool) : (s.setPin i v).bus = s.bus := rfl
@[simp] theorem State.setPin_gauge (i : FilteredInput) (v : Bool) : (s.setPin i v).gauge = s.gauge := rfl
@[simp] theorem State.setPin_table (i : FilteredInput) (v : Bool) : (s.setPin i v).table = s.table := rfl
@[simp] theorem State.setPin_engine (i : FilteredInput) (v : Bool) : (s.setPin i v).engine = s.engine := rfl
@[simp] theorem State.setPin_cradles (i : FilteredInput) (v : Bool) :
    (s.setPin i v).cradles = s.cradles := rfl
@[simp] theorem State.setPin_release (i : FilteredInput) (v : Bool) :
    (s.setPin i v).release = s.release := rfl
@[simp] theorem State.setPin_tie (i : FilteredInput) (v : Bool) : (s.setPin i v).tie = s.tie := rfl
@[simp] theorem State.setPin_status (i : FilteredInput) (v : Bool) : (s.setPin i v).status = s.status := rfl
@[simp] theorem State.setPin_handed (i : FilteredInput) (v : Bool) : (s.setPin i v).handed = s.handed := rfl
@[simp] theorem State.setPin_now (i : FilteredInput) (v : Bool) : (s.setPin i v).now = s.now := rfl
@[simp] theorem State.setPin_pending (i : FilteredInput) (v : Bool) :
    (s.setPin i v).pending = s.pending := rfl
@[simp] theorem State.setPin_cfg (i : FilteredInput) (v : Bool) : (s.setPin i v).cfg = s.cfg := rfl
@[simp] theorem State.setPin_stationId (i : FilteredInput) (v : Bool) : (s.setPin i v).stationId = s.stationId := rfl

/-! ### `State.setFilter` -/

@[simp] theorem State.setFilter_pins (i : FilteredInput) (f : Filter) :
    (s.setFilter i f).pins = s.pins := by cases i <;> rfl
@[simp] theorem State.setFilter_loader (i : FilteredInput) (f : Filter) :
    (s.setFilter i f).loader = s.loader := by cases i <;> rfl
@[simp] theorem State.setFilter_bus (i : FilteredInput) (f : Filter) :
    (s.setFilter i f).bus = s.bus := by cases i <;> rfl
@[simp] theorem State.setFilter_table (i : FilteredInput) (f : Filter) :
    (s.setFilter i f).table = s.table := by cases i <;> rfl
@[simp] theorem State.setFilter_engine (i : FilteredInput) (f : Filter) :
    (s.setFilter i f).engine = s.engine := by cases i <;> rfl
@[simp] theorem State.setFilter_release (i : FilteredInput) (f : Filter) :
    (s.setFilter i f).release = s.release := by cases i <;> rfl
@[simp] theorem State.setFilter_tie (i : FilteredInput) (f : Filter) :
    (s.setFilter i f).tie = s.tie := by cases i <;> rfl
@[simp] theorem State.setFilter_handed (i : FilteredInput) (f : Filter) :
    (s.setFilter i f).handed = s.handed := by cases i <;> rfl
@[simp] theorem State.setFilter_now (i : FilteredInput) (f : Filter) :
    (s.setFilter i f).now = s.now := by cases i <;> rfl
@[simp] theorem State.setFilter_pending (i : FilteredInput) (f : Filter) :
    (s.setFilter i f).pending = s.pending := by cases i <;> rfl
@[simp] theorem State.setFilter_cfg (i : FilteredInput) (f : Filter) : (s.setFilter i f).cfg = s.cfg := by cases i <;> rfl
@[simp] theorem State.setFilter_stationId (i : FilteredInput) (f : Filter) : (s.setFilter i f).stationId = s.stationId := by cases i <;> rfl

/-! ### `State.setMemory` -/

@[simp] theorem State.setMemory_pins (m : MemoryRead) : (s.setMemory m).pins = s.pins := rfl
@[simp] theorem State.setMemory_loader (m : MemoryRead) :
    (s.setMemory m).loader = { s.loader with memory := m } := rfl
@[simp] theorem State.setMemory_tracker (m : MemoryRead) : (s.setMemory m).tracker = s.tracker := rfl
@[simp] theorem State.setMemory_bus (m : MemoryRead) : (s.setMemory m).bus = s.bus := rfl
@[simp] theorem State.setMemory_gauge (m : MemoryRead) : (s.setMemory m).gauge = s.gauge := rfl
@[simp] theorem State.setMemory_table (m : MemoryRead) : (s.setMemory m).table = s.table := rfl
@[simp] theorem State.setMemory_engine (m : MemoryRead) : (s.setMemory m).engine = s.engine := rfl
@[simp] theorem State.setMemory_cradles (m : MemoryRead) : (s.setMemory m).cradles = s.cradles := rfl
@[simp] theorem State.setMemory_release (m : MemoryRead) : (s.setMemory m).release = s.release := rfl
@[simp] theorem State.setMemory_tie (m : MemoryRead) : (s.setMemory m).tie = s.tie := rfl
@[simp] theorem State.setMemory_status (m : MemoryRead) : (s.setMemory m).status = s.status := rfl
@[simp] theorem State.setMemory_handed (m : MemoryRead) : (s.setMemory m).handed = s.handed := rfl
@[simp] theorem State.setMemory_now (m : MemoryRead) : (s.setMemory m).now = s.now := rfl
@[simp] theorem State.setMemory_pending (m : MemoryRead) : (s.setMemory m).pending = s.pending := rfl
@[simp] theorem State.setMemory_cfg (m : MemoryRead) : (s.setMemory m).cfg = s.cfg := rfl
@[simp] theorem State.setMemory_stationId (m : MemoryRead) : (s.setMemory m).stationId = s.stationId := rfl

/-! ### `State.setGateFilter` -/

@[simp] theorem State.setGateFilter_pins (f : Filter) : (s.setGateFilter f).pins = s.pins := rfl
@[simp] theorem State.setGateFilter_loader (f : Filter) : (s.setGateFilter f).loader = s.loader := rfl
@[simp] theorem State.setGateFilter_tracker (f : Filter) :
    (s.setGateFilter f).tracker = { s.tracker with gateFilter := f } := rfl
@[simp] theorem State.setGateFilter_bus (f : Filter) : (s.setGateFilter f).bus = s.bus := rfl
@[simp] theorem State.setGateFilter_gauge (f : Filter) : (s.setGateFilter f).gauge = s.gauge := rfl
@[simp] theorem State.setGateFilter_table (f : Filter) : (s.setGateFilter f).table = s.table := rfl
@[simp] theorem State.setGateFilter_engine (f : Filter) : (s.setGateFilter f).engine = s.engine := rfl
@[simp] theorem State.setGateFilter_cradles (f : Filter) : (s.setGateFilter f).cradles = s.cradles := rfl
@[simp] theorem State.setGateFilter_release (f : Filter) : (s.setGateFilter f).release = s.release := rfl
@[simp] theorem State.setGateFilter_tie (f : Filter) : (s.setGateFilter f).tie = s.tie := rfl
@[simp] theorem State.setGateFilter_status (f : Filter) : (s.setGateFilter f).status = s.status := rfl
@[simp] theorem State.setGateFilter_handed (f : Filter) : (s.setGateFilter f).handed = s.handed := rfl
@[simp] theorem State.setGateFilter_now (f : Filter) : (s.setGateFilter f).now = s.now := rfl
@[simp] theorem State.setGateFilter_pending (f : Filter) : (s.setGateFilter f).pending = s.pending := rfl
@[simp] theorem State.setGateFilter_cfg (f : Filter) : (s.setGateFilter f).cfg = s.cfg := rfl
@[simp] theorem State.setGateFilter_stationId (f : Filter) : (s.setGateFilter f).stationId = s.stationId := rfl

/-! ### `State.lineState` -/

@[simp] theorem State.lineState_pins (st : LineState) (g : Nat) : (s.lineState st g).pins = s.pins := rfl
@[simp] theorem State.lineState_loader (st : LineState) (g : Nat) :
    (s.lineState st g).loader = s.loader := rfl
@[simp] theorem State.lineState_tracker (st : LineState) (g : Nat) :
    (s.lineState st g).tracker = s.tracker := rfl
@[simp] theorem State.lineState_bus (st : LineState) (g : Nat) :
    (s.lineState st g).bus = { s.bus with state := st, gap := g } := rfl
@[simp] theorem State.lineState_gauge (st : LineState) (g : Nat) : (s.lineState st g).gauge = s.gauge := rfl
@[simp] theorem State.lineState_table (st : LineState) (g : Nat) : (s.lineState st g).table = s.table := rfl
@[simp] theorem State.lineState_engine (st : LineState) (g : Nat) :
    (s.lineState st g).engine = s.engine := rfl
@[simp] theorem State.lineState_cradles (st : LineState) (g : Nat) :
    (s.lineState st g).cradles = s.cradles := rfl
@[simp] theorem State.lineState_release (st : LineState) (g : Nat) :
    (s.lineState st g).release = s.release := rfl
@[simp] theorem State.lineState_tie (st : LineState) (g : Nat) : (s.lineState st g).tie = s.tie := rfl
@[simp] theorem State.lineState_status (st : LineState) (g : Nat) :
    (s.lineState st g).status = s.status := rfl
@[simp] theorem State.lineState_handed (st : LineState) (g : Nat) :
    (s.lineState st g).handed = s.handed := rfl
@[simp] theorem State.lineState_now (st : LineState) (g : Nat) : (s.lineState st g).now = s.now := rfl
@[simp] theorem State.lineState_pending (st : LineState) (g : Nat) :
    (s.lineState st g).pending = s.pending := rfl
@[simp] theorem State.lineState_cfg (st : LineState) (g : Nat) : (s.lineState st g).cfg = s.cfg := rfl
@[simp] theorem State.lineState_stationId (st : LineState) (g : Nat) : (s.lineState st g).stationId = s.stationId := rfl

/-! ### `State.beginReceiving` -/

@[simp] theorem State.beginReceiving_pins (own : Bool) : (s.beginReceiving own).pins = s.pins := rfl
@[simp] theorem State.beginReceiving_loader (own : Bool) : (s.beginReceiving own).loader = s.loader := rfl
@[simp] theorem State.beginReceiving_tracker (own : Bool) : (s.beginReceiving own).tracker = s.tracker := rfl
@[simp] theorem State.beginReceiving_bus (own : Bool) :
    (s.beginReceiving own).bus = { s.bus with state := .receiving, gap := 0, ownSpoiled := own } := rfl
@[simp] theorem State.beginReceiving_gauge (own : Bool) : (s.beginReceiving own).gauge = s.gauge := rfl
@[simp] theorem State.beginReceiving_table (own : Bool) : (s.beginReceiving own).table = s.table := rfl
@[simp] theorem State.beginReceiving_engine (own : Bool) : (s.beginReceiving own).engine = s.engine := rfl
@[simp] theorem State.beginReceiving_cradles (own : Bool) : (s.beginReceiving own).cradles = s.cradles := rfl
@[simp] theorem State.beginReceiving_release (own : Bool) : (s.beginReceiving own).release = s.release := rfl
@[simp] theorem State.beginReceiving_tie (own : Bool) : (s.beginReceiving own).tie = s.tie := rfl
@[simp] theorem State.beginReceiving_status (own : Bool) : (s.beginReceiving own).status = s.status := rfl
@[simp] theorem State.beginReceiving_handed (own : Bool) : (s.beginReceiving own).handed = s.handed := rfl
@[simp] theorem State.beginReceiving_now (own : Bool) : (s.beginReceiving own).now = s.now := rfl
@[simp] theorem State.beginReceiving_pending (own : Bool) : (s.beginReceiving own).pending = s.pending := rfl
@[simp] theorem State.beginReceiving_cfg (own : Bool) : (s.beginReceiving own).cfg = s.cfg := rfl
@[simp] theorem State.beginReceiving_stationId (own : Bool) : (s.beginReceiving own).stationId = s.stationId := rfl

/-! ### `State.enqueue` -/

@[simp] theorem State.enqueue_pins (f : Frame) : (s.enqueue f).pins = s.pins := rfl
@[simp] theorem State.enqueue_loader (f : Frame) : (s.enqueue f).loader = s.loader := rfl
@[simp] theorem State.enqueue_tracker (f : Frame) : (s.enqueue f).tracker = s.tracker := rfl
@[simp] theorem State.enqueue_bus (f : Frame) :
    (s.enqueue f).bus = { s.bus with queue := insertByValue (newQueued s.cfg f) s.bus.queue } := rfl
@[simp] theorem State.enqueue_gauge (f : Frame) : (s.enqueue f).gauge = s.gauge := rfl
@[simp] theorem State.enqueue_table (f : Frame) : (s.enqueue f).table = s.table := rfl
@[simp] theorem State.enqueue_engine (f : Frame) : (s.enqueue f).engine = s.engine := rfl
@[simp] theorem State.enqueue_cradles (f : Frame) : (s.enqueue f).cradles = s.cradles := rfl
@[simp] theorem State.enqueue_release (f : Frame) : (s.enqueue f).release = s.release := rfl
@[simp] theorem State.enqueue_tie (f : Frame) : (s.enqueue f).tie = s.tie := rfl
@[simp] theorem State.enqueue_status (f : Frame) : (s.enqueue f).status = s.status := rfl
@[simp] theorem State.enqueue_handed (f : Frame) : (s.enqueue f).handed = s.handed := rfl
@[simp] theorem State.enqueue_now (f : Frame) : (s.enqueue f).now = s.now := rfl
@[simp] theorem State.enqueue_pending (f : Frame) : (s.enqueue f).pending = s.pending := rfl
@[simp] theorem State.enqueue_cfg (f : Frame) : (s.enqueue f).cfg = s.cfg := rfl
@[simp] theorem State.enqueue_stationId (f : Frame) : (s.enqueue f).stationId = s.stationId := rfl

/-! ### `State.dequeueClaim` -/

@[simp] theorem State.dequeueClaim_pins (x : Slot) : (s.dequeueClaim x).pins = s.pins := rfl
@[simp] theorem State.dequeueClaim_loader (x : Slot) : (s.dequeueClaim x).loader = s.loader := rfl
@[simp] theorem State.dequeueClaim_tracker (x : Slot) : (s.dequeueClaim x).tracker = s.tracker := rfl
@[simp] theorem State.dequeueClaim_bus (x : Slot) :
    (s.dequeueClaim x).bus = { s.bus with queue := s.bus.queue.filter (fun q => !isClaimFor x q.frame.body) } := rfl
@[simp] theorem State.dequeueClaim_gauge (x : Slot) : (s.dequeueClaim x).gauge = s.gauge := rfl
@[simp] theorem State.dequeueClaim_table (x : Slot) : (s.dequeueClaim x).table = s.table := rfl
@[simp] theorem State.dequeueClaim_engine (x : Slot) : (s.dequeueClaim x).engine = s.engine := rfl
@[simp] theorem State.dequeueClaim_cradles (x : Slot) : (s.dequeueClaim x).cradles = s.cradles := rfl
@[simp] theorem State.dequeueClaim_release (x : Slot) : (s.dequeueClaim x).release = s.release := rfl
@[simp] theorem State.dequeueClaim_tie (x : Slot) : (s.dequeueClaim x).tie = s.tie := rfl
@[simp] theorem State.dequeueClaim_status (x : Slot) : (s.dequeueClaim x).status = s.status := rfl
@[simp] theorem State.dequeueClaim_handed (x : Slot) : (s.dequeueClaim x).handed = s.handed := rfl
@[simp] theorem State.dequeueClaim_now (x : Slot) : (s.dequeueClaim x).now = s.now := rfl
@[simp] theorem State.dequeueClaim_pending (x : Slot) : (s.dequeueClaim x).pending = s.pending := rfl
@[simp] theorem State.dequeueClaim_cfg (x : Slot) : (s.dequeueClaim x).cfg = s.cfg := rfl
@[simp] theorem State.dequeueClaim_stationId (x : Slot) : (s.dequeueClaim x).stationId = s.stationId := rfl

/-! ### `State.leaveContended` -/

@[simp] theorem State.leaveContended_pins : (s.leaveContended).pins = s.pins := rfl
@[simp] theorem State.leaveContended_loader : (s.leaveContended).loader = s.loader := rfl
@[simp] theorem State.leaveContended_tracker : (s.leaveContended).tracker = s.tracker := rfl
@[simp] theorem State.leaveContended_bus :
    (s.leaveContended).bus = { s.bus with queue := s.bus.queue.eraseP (fun q => q.contended) } := rfl
@[simp] theorem State.leaveContended_gauge : (s.leaveContended).gauge = s.gauge := rfl
@[simp] theorem State.leaveContended_table : (s.leaveContended).table = s.table := rfl
@[simp] theorem State.leaveContended_engine : (s.leaveContended).engine = s.engine := rfl
@[simp] theorem State.leaveContended_cradles : (s.leaveContended).cradles = s.cradles := rfl
@[simp] theorem State.leaveContended_release : (s.leaveContended).release = s.release := rfl
@[simp] theorem State.leaveContended_tie : (s.leaveContended).tie = s.tie := rfl
@[simp] theorem State.leaveContended_status : (s.leaveContended).status = s.status := rfl
@[simp] theorem State.leaveContended_handed : (s.leaveContended).handed = s.handed := rfl
@[simp] theorem State.leaveContended_now : (s.leaveContended).now = s.now := rfl
@[simp] theorem State.leaveContended_pending : (s.leaveContended).pending = s.pending := rfl
@[simp] theorem State.leaveContended_cfg : (s.leaveContended).cfg = s.cfg := rfl
@[simp] theorem State.leaveContended_stationId : (s.leaveContended).stationId = s.stationId := rfl

/-! ### `State.setPort` -/

@[simp] theorem State.setPort_pins (p : ScanPort) : (s.setPort p).pins = s.pins := rfl
@[simp] theorem State.setPort_loader (p : ScanPort) : (s.setPort p).loader = s.loader := rfl
@[simp] theorem State.setPort_tracker (p : ScanPort) : (s.setPort p).tracker = s.tracker := rfl
@[simp] theorem State.setPort_bus (p : ScanPort) : (s.setPort p).bus = s.bus := rfl
@[simp] theorem State.setPort_gauge (p : ScanPort) : (s.setPort p).gauge = { s.gauge with port := p } := rfl
@[simp] theorem State.setPort_table (p : ScanPort) : (s.setPort p).table = s.table := rfl
@[simp] theorem State.setPort_engine (p : ScanPort) : (s.setPort p).engine = s.engine := rfl
@[simp] theorem State.setPort_cradles (p : ScanPort) : (s.setPort p).cradles = s.cradles := rfl
@[simp] theorem State.setPort_release (p : ScanPort) : (s.setPort p).release = s.release := rfl
@[simp] theorem State.setPort_tie (p : ScanPort) : (s.setPort p).tie = s.tie := rfl
@[simp] theorem State.setPort_status (p : ScanPort) : (s.setPort p).status = s.status := rfl
@[simp] theorem State.setPort_handed (p : ScanPort) : (s.setPort p).handed = s.handed := rfl
@[simp] theorem State.setPort_now (p : ScanPort) : (s.setPort p).now = s.now := rfl
@[simp] theorem State.setPort_pending (p : ScanPort) : (s.setPort p).pending = s.pending := rfl
@[simp] theorem State.setPort_cfg (p : ScanPort) : (s.setPort p).cfg = s.cfg := rfl
@[simp] theorem State.setPort_stationId (p : ScanPort) : (s.setPort p).stationId = s.stationId := rfl

/-! ### `State.discardWindow` -/

@[simp] theorem State.discardWindow_pins : (s.discardWindow).pins = s.pins := rfl
@[simp] theorem State.discardWindow_loader : (s.discardWindow).loader = s.loader := rfl
@[simp] theorem State.discardWindow_tracker : (s.discardWindow).tracker = s.tracker := rfl
@[simp] theorem State.discardWindow_bus : (s.discardWindow).bus = s.bus := rfl
@[simp] theorem State.discardWindow_gauge : (s.discardWindow).gauge = { s.gauge with window := none } := rfl
@[simp] theorem State.discardWindow_table : (s.discardWindow).table = s.table := rfl
@[simp] theorem State.discardWindow_engine : (s.discardWindow).engine = s.engine := rfl
@[simp] theorem State.discardWindow_cradles : (s.discardWindow).cradles = s.cradles := rfl
@[simp] theorem State.discardWindow_release : (s.discardWindow).release = s.release := rfl
@[simp] theorem State.discardWindow_tie : (s.discardWindow).tie = s.tie := rfl
@[simp] theorem State.discardWindow_status : (s.discardWindow).status = s.status := rfl
@[simp] theorem State.discardWindow_handed : (s.discardWindow).handed = s.handed := rfl
@[simp] theorem State.discardWindow_now : (s.discardWindow).now = s.now := rfl
@[simp] theorem State.discardWindow_pending : (s.discardWindow).pending = s.pending := rfl
@[simp] theorem State.discardWindow_cfg : (s.discardWindow).cfg = s.cfg := rfl
@[simp] theorem State.discardWindow_stationId : (s.discardWindow).stationId = s.stationId := rfl

/-! ### `State.setLotFilter` -/

@[simp] theorem State.setLotFilter_pins (f : Filter) : (s.setLotFilter f).pins = s.pins := rfl
@[simp] theorem State.setLotFilter_loader (f : Filter) : (s.setLotFilter f).loader = s.loader := rfl
@[simp] theorem State.setLotFilter_tracker (f : Filter) : (s.setLotFilter f).tracker = s.tracker := rfl
@[simp] theorem State.setLotFilter_bus (f : Filter) : (s.setLotFilter f).bus = s.bus := rfl
@[simp] theorem State.setLotFilter_gauge (f : Filter) :
    (s.setLotFilter f).gauge = { s.gauge with lotFilter := f } := rfl
@[simp] theorem State.setLotFilter_table (f : Filter) : (s.setLotFilter f).table = s.table := rfl
@[simp] theorem State.setLotFilter_engine (f : Filter) : (s.setLotFilter f).engine = s.engine := rfl
@[simp] theorem State.setLotFilter_cradles (f : Filter) : (s.setLotFilter f).cradles = s.cradles := rfl
@[simp] theorem State.setLotFilter_release (f : Filter) : (s.setLotFilter f).release = s.release := rfl
@[simp] theorem State.setLotFilter_tie (f : Filter) : (s.setLotFilter f).tie = s.tie := rfl
@[simp] theorem State.setLotFilter_status (f : Filter) : (s.setLotFilter f).status = s.status := rfl
@[simp] theorem State.setLotFilter_handed (f : Filter) : (s.setLotFilter f).handed = s.handed := rfl
@[simp] theorem State.setLotFilter_now (f : Filter) : (s.setLotFilter f).now = s.now := rfl
@[simp] theorem State.setLotFilter_pending (f : Filter) : (s.setLotFilter f).pending = s.pending := rfl
@[simp] theorem State.setLotFilter_cfg (f : Filter) : (s.setLotFilter f).cfg = s.cfg := rfl
@[simp] theorem State.setLotFilter_stationId (f : Filter) : (s.setLotFilter f).stationId = s.stationId := rfl

/-! ### `State.unwatch` -/

@[simp] theorem State.unwatch_pins (x : Slot) : (s.unwatch x).pins = s.pins := rfl
@[simp] theorem State.unwatch_loader (x : Slot) : (s.unwatch x).loader = s.loader := rfl
@[simp] theorem State.unwatch_tracker (x : Slot) : (s.unwatch x).tracker = s.tracker := rfl
@[simp] theorem State.unwatch_bus (x : Slot) : (s.unwatch x).bus = s.bus := rfl
@[simp] theorem State.unwatch_gauge (x : Slot) :
    (s.unwatch x).gauge = { s.gauge with watch := s.gauge.watch.filter (fun e => e.slot != x) } := rfl
@[simp] theorem State.unwatch_table (x : Slot) : (s.unwatch x).table = s.table := rfl
@[simp] theorem State.unwatch_engine (x : Slot) : (s.unwatch x).engine = s.engine := rfl
@[simp] theorem State.unwatch_cradles (x : Slot) : (s.unwatch x).cradles = s.cradles := rfl
@[simp] theorem State.unwatch_release (x : Slot) : (s.unwatch x).release = s.release := rfl
@[simp] theorem State.unwatch_tie (x : Slot) : (s.unwatch x).tie = s.tie := rfl
@[simp] theorem State.unwatch_status (x : Slot) : (s.unwatch x).status = s.status := rfl
@[simp] theorem State.unwatch_handed (x : Slot) : (s.unwatch x).handed = s.handed := rfl
@[simp] theorem State.unwatch_now (x : Slot) : (s.unwatch x).now = s.now := rfl
@[simp] theorem State.unwatch_pending (x : Slot) : (s.unwatch x).pending = s.pending := rfl
@[simp] theorem State.unwatch_cfg (x : Slot) : (s.unwatch x).cfg = s.cfg := rfl
@[simp] theorem State.unwatch_stationId (x : Slot) : (s.unwatch x).stationId = s.stationId := rfl

/-! ### `State.setEntry` -/

@[simp] theorem State.setEntry_pins (x : Slot) (st : EntryState) : (s.setEntry x st).pins = s.pins := rfl
@[simp] theorem State.setEntry_loader (x : Slot) (st : EntryState) :
    (s.setEntry x st).loader = s.loader := rfl
@[simp] theorem State.setEntry_tracker (x : Slot) (st : EntryState) :
    (s.setEntry x st).tracker = s.tracker := rfl
@[simp] theorem State.setEntry_bus (x : Slot) (st : EntryState) : (s.setEntry x st).bus = s.bus := rfl
@[simp] theorem State.setEntry_gauge (x : Slot) (st : EntryState) : (s.setEntry x st).gauge = s.gauge := rfl
@[simp] theorem State.setEntry_table (x : Slot) (st : EntryState) :
    (s.setEntry x st).table = { s.table with entries := s.table.entries.map (fun e => if e.slot = x then { e with state := st } else e) } := rfl
@[simp] theorem State.setEntry_engine (x : Slot) (st : EntryState) :
    (s.setEntry x st).engine = s.engine := rfl
@[simp] theorem State.setEntry_cradles (x : Slot) (st : EntryState) :
    (s.setEntry x st).cradles = s.cradles := rfl
@[simp] theorem State.setEntry_release (x : Slot) (st : EntryState) :
    (s.setEntry x st).release = s.release := rfl
@[simp] theorem State.setEntry_tie (x : Slot) (st : EntryState) : (s.setEntry x st).tie = s.tie := rfl
@[simp] theorem State.setEntry_status (x : Slot) (st : EntryState) :
    (s.setEntry x st).status = s.status := rfl
@[simp] theorem State.setEntry_handed (x : Slot) (st : EntryState) :
    (s.setEntry x st).handed = s.handed := rfl
@[simp] theorem State.setEntry_now (x : Slot) (st : EntryState) : (s.setEntry x st).now = s.now := rfl
@[simp] theorem State.setEntry_pending (x : Slot) (st : EntryState) :
    (s.setEntry x st).pending = s.pending := rfl
@[simp] theorem State.setEntry_cfg (x : Slot) (st : EntryState) : (s.setEntry x st).cfg = s.cfg := rfl
@[simp] theorem State.setEntry_stationId (x : Slot) (st : EntryState) : (s.setEntry x st).stationId = s.stationId := rfl

/-! ### `State.removeEntry` -/

@[simp] theorem State.removeEntry_pins (x : Slot) : (s.removeEntry x).pins = s.pins := rfl
@[simp] theorem State.removeEntry_loader (x : Slot) : (s.removeEntry x).loader = s.loader := rfl
@[simp] theorem State.removeEntry_tracker (x : Slot) : (s.removeEntry x).tracker = s.tracker := rfl
@[simp] theorem State.removeEntry_bus (x : Slot) : (s.removeEntry x).bus = s.bus := rfl
@[simp] theorem State.removeEntry_gauge (x : Slot) : (s.removeEntry x).gauge = s.gauge := rfl
@[simp] theorem State.removeEntry_table (x : Slot) :
    (s.removeEntry x).table = { s.table with entries := s.table.entries.filter (fun e => e.slot != x) } := rfl
@[simp] theorem State.removeEntry_engine (x : Slot) : (s.removeEntry x).engine = s.engine := rfl
@[simp] theorem State.removeEntry_cradles (x : Slot) : (s.removeEntry x).cradles = s.cradles := rfl
@[simp] theorem State.removeEntry_release (x : Slot) : (s.removeEntry x).release = s.release := rfl
@[simp] theorem State.removeEntry_tie (x : Slot) : (s.removeEntry x).tie = s.tie := rfl
@[simp] theorem State.removeEntry_status (x : Slot) : (s.removeEntry x).status = s.status := rfl
@[simp] theorem State.removeEntry_handed (x : Slot) : (s.removeEntry x).handed = s.handed := rfl
@[simp] theorem State.removeEntry_now (x : Slot) : (s.removeEntry x).now = s.now := rfl
@[simp] theorem State.removeEntry_pending (x : Slot) : (s.removeEntry x).pending = s.pending := rfl
@[simp] theorem State.removeEntry_cfg (x : Slot) : (s.removeEntry x).cfg = s.cfg := rfl
@[simp] theorem State.removeEntry_stationId (x : Slot) : (s.removeEntry x).stationId = s.stationId := rfl

/-! ### `State.joinEntry` -/

@[simp] theorem State.joinEntry_pins (e : FlightEntry) : (s.joinEntry e).pins = s.pins := rfl
@[simp] theorem State.joinEntry_loader (e : FlightEntry) : (s.joinEntry e).loader = s.loader := rfl
@[simp] theorem State.joinEntry_tracker (e : FlightEntry) : (s.joinEntry e).tracker = s.tracker := rfl
@[simp] theorem State.joinEntry_bus (e : FlightEntry) : (s.joinEntry e).bus = s.bus := rfl
@[simp] theorem State.joinEntry_gauge (e : FlightEntry) : (s.joinEntry e).gauge = s.gauge := rfl
@[simp] theorem State.joinEntry_table (e : FlightEntry) :
    (s.joinEntry e).table = { s.table with entries := insertByKey (fun x => s.rem x.slot) e s.table.entries } := rfl
@[simp] theorem State.joinEntry_engine (e : FlightEntry) : (s.joinEntry e).engine = s.engine := rfl
@[simp] theorem State.joinEntry_cradles (e : FlightEntry) : (s.joinEntry e).cradles = s.cradles := rfl
@[simp] theorem State.joinEntry_release (e : FlightEntry) : (s.joinEntry e).release = s.release := rfl
@[simp] theorem State.joinEntry_tie (e : FlightEntry) : (s.joinEntry e).tie = s.tie := rfl
@[simp] theorem State.joinEntry_status (e : FlightEntry) : (s.joinEntry e).status = s.status := rfl
@[simp] theorem State.joinEntry_handed (e : FlightEntry) : (s.joinEntry e).handed = s.handed := rfl
@[simp] theorem State.joinEntry_now (e : FlightEntry) : (s.joinEntry e).now = s.now := rfl
@[simp] theorem State.joinEntry_pending (e : FlightEntry) : (s.joinEntry e).pending = s.pending := rfl
@[simp] theorem State.joinEntry_cfg (e : FlightEntry) : (s.joinEntry e).cfg = s.cfg := rfl
@[simp] theorem State.joinEntry_stationId (e : FlightEntry) : (s.joinEntry e).stationId = s.stationId := rfl

/-! ### `State.joinLotClose` -/

@[simp] theorem State.joinLotClose_pins (r : LotClose) : (s.joinLotClose r).pins = s.pins := rfl
@[simp] theorem State.joinLotClose_loader (r : LotClose) : (s.joinLotClose r).loader = s.loader := rfl
@[simp] theorem State.joinLotClose_tracker (r : LotClose) : (s.joinLotClose r).tracker = s.tracker := rfl
@[simp] theorem State.joinLotClose_bus (r : LotClose) : (s.joinLotClose r).bus = s.bus := rfl
@[simp] theorem State.joinLotClose_gauge (r : LotClose) : (s.joinLotClose r).gauge = s.gauge := rfl
@[simp] theorem State.joinLotClose_table (r : LotClose) :
    (s.joinLotClose r).table = { s.table with lotCloses := insertByKey (fun x => s.rem x.lastSlot) r s.table.lotCloses } := rfl
@[simp] theorem State.joinLotClose_engine (r : LotClose) : (s.joinLotClose r).engine = s.engine := rfl
@[simp] theorem State.joinLotClose_cradles (r : LotClose) : (s.joinLotClose r).cradles = s.cradles := rfl
@[simp] theorem State.joinLotClose_release (r : LotClose) : (s.joinLotClose r).release = s.release := rfl
@[simp] theorem State.joinLotClose_tie (r : LotClose) : (s.joinLotClose r).tie = s.tie := rfl
@[simp] theorem State.joinLotClose_status (r : LotClose) : (s.joinLotClose r).status = s.status := rfl
@[simp] theorem State.joinLotClose_handed (r : LotClose) : (s.joinLotClose r).handed = s.handed := rfl
@[simp] theorem State.joinLotClose_now (r : LotClose) : (s.joinLotClose r).now = s.now := rfl
@[simp] theorem State.joinLotClose_pending (r : LotClose) : (s.joinLotClose r).pending = s.pending := rfl
@[simp] theorem State.joinLotClose_cfg (r : LotClose) : (s.joinLotClose r).cfg = s.cfg := rfl
@[simp] theorem State.joinLotClose_stationId (r : LotClose) : (s.joinLotClose r).stationId = s.stationId := rfl

/-! ### `State.setCradle` -/

@[simp] theorem State.setCradle_pins (c : CradleId) (k : Cradle) :
    (s.setCradle c k).pins = s.pins := by cases c <;> rfl
@[simp] theorem State.setCradle_loader (c : CradleId) (k : Cradle) :
    (s.setCradle c k).loader = s.loader := by cases c <;> rfl
@[simp] theorem State.setCradle_tracker (c : CradleId) (k : Cradle) :
    (s.setCradle c k).tracker = s.tracker := by cases c <;> rfl
@[simp] theorem State.setCradle_bus (c : CradleId) (k : Cradle) :
    (s.setCradle c k).bus = s.bus := by cases c <;> rfl
@[simp] theorem State.setCradle_gauge (c : CradleId) (k : Cradle) :
    (s.setCradle c k).gauge = s.gauge := by cases c <;> rfl
@[simp] theorem State.setCradle_table (c : CradleId) (k : Cradle) :
    (s.setCradle c k).table = s.table := by cases c <;> rfl
@[simp] theorem State.setCradle_engine (c : CradleId) (k : Cradle) :
    (s.setCradle c k).engine = s.engine := by cases c <;> rfl
@[simp] theorem State.setCradle_release (c : CradleId) (k : Cradle) :
    (s.setCradle c k).release = s.release := by cases c <;> rfl
@[simp] theorem State.setCradle_tie (c : CradleId) (k : Cradle) :
    (s.setCradle c k).tie = s.tie := by cases c <;> rfl
@[simp] theorem State.setCradle_status (c : CradleId) (k : Cradle) :
    (s.setCradle c k).status = s.status := by cases c <;> rfl
@[simp] theorem State.setCradle_handed (c : CradleId) (k : Cradle) :
    (s.setCradle c k).handed = s.handed := by cases c <;> rfl
@[simp] theorem State.setCradle_now (c : CradleId) (k : Cradle) :
    (s.setCradle c k).now = s.now := by cases c <;> rfl
@[simp] theorem State.setCradle_pending (c : CradleId) (k : Cradle) :
    (s.setCradle c k).pending = s.pending := by cases c <;> rfl
@[simp] theorem State.setCradle_cfg (c : CradleId) (k : Cradle) : (s.setCradle c k).cfg = s.cfg := by cases c <;> rfl
@[simp] theorem State.setCradle_stationId (c : CradleId) (k : Cradle) : (s.setCradle c k).stationId = s.stationId := by cases c <;> rfl

/-! ### `State.setClearFilter` -/

@[simp] theorem State.setClearFilter_pins (c : CradleId) (f : Filter) :
    (s.setClearFilter c f).pins = s.pins := by cases c <;> rfl
@[simp] theorem State.setClearFilter_loader (c : CradleId) (f : Filter) :
    (s.setClearFilter c f).loader = s.loader := by cases c <;> rfl
@[simp] theorem State.setClearFilter_tracker (c : CradleId) (f : Filter) :
    (s.setClearFilter c f).tracker = s.tracker := by cases c <;> rfl
@[simp] theorem State.setClearFilter_bus (c : CradleId) (f : Filter) :
    (s.setClearFilter c f).bus = s.bus := by cases c <;> rfl
@[simp] theorem State.setClearFilter_gauge (c : CradleId) (f : Filter) :
    (s.setClearFilter c f).gauge = s.gauge := by cases c <;> rfl
@[simp] theorem State.setClearFilter_table (c : CradleId) (f : Filter) :
    (s.setClearFilter c f).table = s.table := by cases c <;> rfl
@[simp] theorem State.setClearFilter_engine (c : CradleId) (f : Filter) :
    (s.setClearFilter c f).engine = s.engine := by cases c <;> rfl
@[simp] theorem State.setClearFilter_release (c : CradleId) (f : Filter) :
    (s.setClearFilter c f).release = s.release := by cases c <;> rfl
@[simp] theorem State.setClearFilter_tie (c : CradleId) (f : Filter) :
    (s.setClearFilter c f).tie = s.tie := by cases c <;> rfl
@[simp] theorem State.setClearFilter_status (c : CradleId) (f : Filter) :
    (s.setClearFilter c f).status = s.status := by cases c <;> rfl
@[simp] theorem State.setClearFilter_handed (c : CradleId) (f : Filter) :
    (s.setClearFilter c f).handed = s.handed := by cases c <;> rfl
@[simp] theorem State.setClearFilter_now (c : CradleId) (f : Filter) :
    (s.setClearFilter c f).now = s.now := by cases c <;> rfl
@[simp] theorem State.setClearFilter_pending (c : CradleId) (f : Filter) :
    (s.setClearFilter c f).pending = s.pending := by cases c <;> rfl
@[simp] theorem State.setClearFilter_cfg (c : CradleId) (f : Filter) : (s.setClearFilter c f).cfg = s.cfg := by cases c <;> rfl
@[simp] theorem State.setClearFilter_stationId (c : CradleId) (f : Filter) : (s.setClearFilter c f).stationId = s.stationId := by cases c <;> rfl

/-! ### `State.leaveTieQueue` -/

@[simp] theorem State.leaveTieQueue_pins (c : CradleId) : (s.leaveTieQueue c).pins = s.pins := rfl
@[simp] theorem State.leaveTieQueue_loader (c : CradleId) : (s.leaveTieQueue c).loader = s.loader := rfl
@[simp] theorem State.leaveTieQueue_tracker (c : CradleId) : (s.leaveTieQueue c).tracker = s.tracker := rfl
@[simp] theorem State.leaveTieQueue_bus (c : CradleId) : (s.leaveTieQueue c).bus = s.bus := rfl
@[simp] theorem State.leaveTieQueue_gauge (c : CradleId) : (s.leaveTieQueue c).gauge = s.gauge := rfl
@[simp] theorem State.leaveTieQueue_table (c : CradleId) : (s.leaveTieQueue c).table = s.table := rfl
@[simp] theorem State.leaveTieQueue_engine (c : CradleId) : (s.leaveTieQueue c).engine = s.engine := rfl
@[simp] theorem State.leaveTieQueue_cradles (c : CradleId) :
    (s.leaveTieQueue c).cradles = { s.cradles with tieQueue := s.cradles.tieQueue.filter (fun d => d != c) } := rfl
@[simp] theorem State.leaveTieQueue_release (c : CradleId) : (s.leaveTieQueue c).release = s.release := rfl
@[simp] theorem State.leaveTieQueue_tie (c : CradleId) : (s.leaveTieQueue c).tie = s.tie := rfl
@[simp] theorem State.leaveTieQueue_status (c : CradleId) : (s.leaveTieQueue c).status = s.status := rfl
@[simp] theorem State.leaveTieQueue_handed (c : CradleId) : (s.leaveTieQueue c).handed = s.handed := rfl
@[simp] theorem State.leaveTieQueue_now (c : CradleId) : (s.leaveTieQueue c).now = s.now := rfl
@[simp] theorem State.leaveTieQueue_pending (c : CradleId) : (s.leaveTieQueue c).pending = s.pending := rfl
@[simp] theorem State.leaveTieQueue_cfg (c : CradleId) : (s.leaveTieQueue c).cfg = s.cfg := rfl
@[simp] theorem State.leaveTieQueue_stationId (c : CradleId) : (s.leaveTieQueue c).stationId = s.stationId := rfl

/-! ### `State.takeHold` -/

@[simp] theorem State.takeHold_pins (h : Bool) : (s.takeHold h).pins = { s.pins with hold := h } := rfl
@[simp] theorem State.takeHold_loader (h : Bool) : (s.takeHold h).loader = s.loader := rfl
@[simp] theorem State.takeHold_tracker (h : Bool) : (s.takeHold h).tracker = s.tracker := rfl
@[simp] theorem State.takeHold_bus (h : Bool) : (s.takeHold h).bus = s.bus := rfl
@[simp] theorem State.takeHold_gauge (h : Bool) : (s.takeHold h).gauge = s.gauge := rfl
@[simp] theorem State.takeHold_table (h : Bool) : (s.takeHold h).table = s.table := rfl
@[simp] theorem State.takeHold_engine (h : Bool) : (s.takeHold h).engine = ⟨h, .steady⟩ := rfl
@[simp] theorem State.takeHold_cradles (h : Bool) : (s.takeHold h).cradles = s.cradles := rfl
@[simp] theorem State.takeHold_release (h : Bool) : (s.takeHold h).release = s.release := rfl
@[simp] theorem State.takeHold_tie (h : Bool) : (s.takeHold h).tie = s.tie := rfl
@[simp] theorem State.takeHold_status (h : Bool) : (s.takeHold h).status = s.status := rfl
@[simp] theorem State.takeHold_handed (h : Bool) : (s.takeHold h).handed = s.handed := rfl
@[simp] theorem State.takeHold_now (h : Bool) : (s.takeHold h).now = s.now := rfl
@[simp] theorem State.takeHold_pending (h : Bool) : (s.takeHold h).pending = s.pending := rfl
@[simp] theorem State.takeHold_cfg (h : Bool) : (s.takeHold h).cfg = s.cfg := rfl
@[simp] theorem State.takeHold_stationId (h : Bool) : (s.takeHold h).stationId = s.stationId := rfl

/-! ### `State.dropDelay` -/

@[simp] theorem State.dropDelay_pins : (s.dropDelay).pins = s.pins := rfl
@[simp] theorem State.dropDelay_loader : (s.dropDelay).loader = s.loader := rfl
@[simp] theorem State.dropDelay_tracker : (s.dropDelay).tracker = s.tracker := rfl
@[simp] theorem State.dropDelay_bus : (s.dropDelay).bus = s.bus := rfl
@[simp] theorem State.dropDelay_gauge : (s.dropDelay).gauge = s.gauge := rfl
@[simp] theorem State.dropDelay_table : (s.dropDelay).table = s.table := rfl
@[simp] theorem State.dropDelay_engine : (s.dropDelay).engine = s.engine := rfl
@[simp] theorem State.dropDelay_cradles : (s.dropDelay).cradles = s.cradles := rfl
@[simp] theorem State.dropDelay_release :
    (s.dropDelay).release = { s.release with delayed := none, delayTimer := none } := rfl
@[simp] theorem State.dropDelay_tie : (s.dropDelay).tie = s.tie := rfl
@[simp] theorem State.dropDelay_status : (s.dropDelay).status = s.status := rfl
@[simp] theorem State.dropDelay_handed : (s.dropDelay).handed = s.handed := rfl
@[simp] theorem State.dropDelay_now : (s.dropDelay).now = s.now := rfl
@[simp] theorem State.dropDelay_pending : (s.dropDelay).pending = s.pending := rfl
@[simp] theorem State.dropDelay_cfg : (s.dropDelay).cfg = s.cfg := rfl
@[simp] theorem State.dropDelay_stationId : (s.dropDelay).stationId = s.stationId := rfl

/-! ### `State.setLastStep` -/

@[simp] theorem State.setLastStep_pins (x : Option Slot) : (s.setLastStep x).pins = s.pins := rfl
@[simp] theorem State.setLastStep_loader (x : Option Slot) : (s.setLastStep x).loader = s.loader := rfl
@[simp] theorem State.setLastStep_tracker (x : Option Slot) : (s.setLastStep x).tracker = s.tracker := rfl
@[simp] theorem State.setLastStep_bus (x : Option Slot) : (s.setLastStep x).bus = s.bus := rfl
@[simp] theorem State.setLastStep_gauge (x : Option Slot) : (s.setLastStep x).gauge = s.gauge := rfl
@[simp] theorem State.setLastStep_table (x : Option Slot) : (s.setLastStep x).table = s.table := rfl
@[simp] theorem State.setLastStep_engine (x : Option Slot) : (s.setLastStep x).engine = s.engine := rfl
@[simp] theorem State.setLastStep_cradles (x : Option Slot) : (s.setLastStep x).cradles = s.cradles := rfl
@[simp] theorem State.setLastStep_release (x : Option Slot) :
    (s.setLastStep x).release = { s.release with lastStep := x } := rfl
@[simp] theorem State.setLastStep_tie (x : Option Slot) : (s.setLastStep x).tie = s.tie := rfl
@[simp] theorem State.setLastStep_status (x : Option Slot) : (s.setLastStep x).status = s.status := rfl
@[simp] theorem State.setLastStep_handed (x : Option Slot) : (s.setLastStep x).handed = s.handed := rfl
@[simp] theorem State.setLastStep_now (x : Option Slot) : (s.setLastStep x).now = s.now := rfl
@[simp] theorem State.setLastStep_pending (x : Option Slot) : (s.setLastStep x).pending = s.pending := rfl
@[simp] theorem State.setLastStep_cfg (x : Option Slot) : (s.setLastStep x).cfg = s.cfg := rfl
@[simp] theorem State.setLastStep_stationId (x : Option Slot) : (s.setLastStep x).stationId = s.stationId := rfl

/-! ### `State.setWindow` -/

@[simp] theorem State.setWindow_pins (w : ConfirmationWindow) : (s.setWindow w).pins = s.pins := rfl
@[simp] theorem State.setWindow_loader (w : ConfirmationWindow) : (s.setWindow w).loader = s.loader := rfl
@[simp] theorem State.setWindow_tracker (w : ConfirmationWindow) : (s.setWindow w).tracker = s.tracker := rfl
@[simp] theorem State.setWindow_bus (w : ConfirmationWindow) : (s.setWindow w).bus = s.bus := rfl
@[simp] theorem State.setWindow_gauge (w : ConfirmationWindow) : (s.setWindow w).gauge = s.gauge := rfl
@[simp] theorem State.setWindow_table (w : ConfirmationWindow) : (s.setWindow w).table = s.table := rfl
@[simp] theorem State.setWindow_engine (w : ConfirmationWindow) : (s.setWindow w).engine = s.engine := rfl
@[simp] theorem State.setWindow_cradles (w : ConfirmationWindow) : (s.setWindow w).cradles = s.cradles := rfl
@[simp] theorem State.setWindow_release (w : ConfirmationWindow) :
    (s.setWindow w).release = { s.release with window := some w } := rfl
@[simp] theorem State.setWindow_tie (w : ConfirmationWindow) : (s.setWindow w).tie = s.tie := rfl
@[simp] theorem State.setWindow_status (w : ConfirmationWindow) : (s.setWindow w).status = s.status := rfl
@[simp] theorem State.setWindow_handed (w : ConfirmationWindow) : (s.setWindow w).handed = s.handed := rfl
@[simp] theorem State.setWindow_now (w : ConfirmationWindow) : (s.setWindow w).now = s.now := rfl
@[simp] theorem State.setWindow_pending (w : ConfirmationWindow) : (s.setWindow w).pending = s.pending := rfl
@[simp] theorem State.setWindow_cfg (w : ConfirmationWindow) : (s.setWindow w).cfg = s.cfg := rfl
@[simp] theorem State.setWindow_stationId (w : ConfirmationWindow) : (s.setWindow w).stationId = s.stationId := rfl

/-! ### `State.awaitAck` -/

@[simp] theorem State.awaitAck_pins : (s.awaitAck).pins = s.pins := rfl
@[simp] theorem State.awaitAck_loader : (s.awaitAck).loader = s.loader := rfl
@[simp] theorem State.awaitAck_tracker : (s.awaitAck).tracker = s.tracker := rfl
@[simp] theorem State.awaitAck_bus : (s.awaitAck).bus = s.bus := rfl
@[simp] theorem State.awaitAck_gauge : (s.awaitAck).gauge = s.gauge := rfl
@[simp] theorem State.awaitAck_table : (s.awaitAck).table = s.table := rfl
@[simp] theorem State.awaitAck_engine : (s.awaitAck).engine = s.engine := rfl
@[simp] theorem State.awaitAck_cradles : (s.awaitAck).cradles = s.cradles := rfl
@[simp] theorem State.awaitAck_release : (s.awaitAck).release = s.release := rfl
@[simp] theorem State.awaitAck_tie :
    (s.awaitAck).tie = { s.tie with phase := .awaitAck, limit := some s.cfg.ackLimit, shift := none } := rfl
@[simp] theorem State.awaitAck_status : (s.awaitAck).status = s.status := rfl
@[simp] theorem State.awaitAck_handed : (s.awaitAck).handed = s.handed := rfl
@[simp] theorem State.awaitAck_now : (s.awaitAck).now = s.now := rfl
@[simp] theorem State.awaitAck_pending : (s.awaitAck).pending = s.pending := rfl
@[simp] theorem State.awaitAck_cfg : (s.awaitAck).cfg = s.cfg := rfl
@[simp] theorem State.awaitAck_stationId : (s.awaitAck).stationId = s.stationId := rfl

/-! ### `State.beginTying` -/

@[simp] theorem State.beginTying_pins : (s.beginTying).pins = s.pins := rfl
@[simp] theorem State.beginTying_loader : (s.beginTying).loader = s.loader := rfl
@[simp] theorem State.beginTying_tracker : (s.beginTying).tracker = s.tracker := rfl
@[simp] theorem State.beginTying_bus : (s.beginTying).bus = s.bus := rfl
@[simp] theorem State.beginTying_gauge : (s.beginTying).gauge = s.gauge := rfl
@[simp] theorem State.beginTying_table : (s.beginTying).table = s.table := rfl
@[simp] theorem State.beginTying_engine : (s.beginTying).engine = s.engine := rfl
@[simp] theorem State.beginTying_cradles : (s.beginTying).cradles = s.cradles := rfl
@[simp] theorem State.beginTying_release : (s.beginTying).release = s.release := rfl
@[simp] theorem State.beginTying_tie :
    (s.beginTying).tie = { s.tie with phase := .tying, limit := some s.cfg.tieLimit, shift := none } := rfl
@[simp] theorem State.beginTying_status : (s.beginTying).status = s.status := rfl
@[simp] theorem State.beginTying_handed : (s.beginTying).handed = s.handed := rfl
@[simp] theorem State.beginTying_now : (s.beginTying).now = s.now := rfl
@[simp] theorem State.beginTying_pending : (s.beginTying).pending = s.pending := rfl
@[simp] theorem State.beginTying_cfg : (s.beginTying).cfg = s.cfg := rfl
@[simp] theorem State.beginTying_stationId : (s.beginTying).stationId = s.stationId := rfl

/-! ### `State.beginReading` -/

@[simp] theorem State.beginReading_pins : (s.beginReading).pins = s.pins := rfl
@[simp] theorem State.beginReading_loader : (s.beginReading).loader = s.loader := rfl
@[simp] theorem State.beginReading_tracker : (s.beginReading).tracker = s.tracker := rfl
@[simp] theorem State.beginReading_bus : (s.beginReading).bus = s.bus := rfl
@[simp] theorem State.beginReading_gauge : (s.beginReading).gauge = s.gauge := rfl
@[simp] theorem State.beginReading_table : (s.beginReading).table = s.table := rfl
@[simp] theorem State.beginReading_engine : (s.beginReading).engine = s.engine := rfl
@[simp] theorem State.beginReading_cradles : (s.beginReading).cradles = s.cradles := rfl
@[simp] theorem State.beginReading_release : (s.beginReading).release = s.release := rfl
@[simp] theorem State.beginReading_tie :
    (s.beginReading).tie = { s.tie with phase := .reading, limit := none } := rfl
@[simp] theorem State.beginReading_status : (s.beginReading).status = s.status := rfl
@[simp] theorem State.beginReading_handed : (s.beginReading).handed = s.handed := rfl
@[simp] theorem State.beginReading_now : (s.beginReading).now = s.now := rfl
@[simp] theorem State.beginReading_pending : (s.beginReading).pending = s.pending := rfl
@[simp] theorem State.beginReading_cfg : (s.beginReading).cfg = s.cfg := rfl
@[simp] theorem State.beginReading_stationId : (s.beginReading).stationId = s.stationId := rfl

/-! ### `State.recordSent` -/

@[simp] theorem State.recordSent_pins : (s.recordSent).pins = s.pins := rfl
@[simp] theorem State.recordSent_loader : (s.recordSent).loader = s.loader := rfl
@[simp] theorem State.recordSent_tracker : (s.recordSent).tracker = s.tracker := rfl
@[simp] theorem State.recordSent_bus : (s.recordSent).bus = s.bus := rfl
@[simp] theorem State.recordSent_gauge : (s.recordSent).gauge = s.gauge := rfl
@[simp] theorem State.recordSent_table : (s.recordSent).table = s.table := rfl
@[simp] theorem State.recordSent_engine : (s.recordSent).engine = s.engine := rfl
@[simp] theorem State.recordSent_cradles : (s.recordSent).cradles = s.cradles := rfl
@[simp] theorem State.recordSent_release : (s.recordSent).release = s.release := rfl
@[simp] theorem State.recordSent_tie : (s.recordSent).tie = { s.tie with lastRecord := s.tie.current } := rfl
@[simp] theorem State.recordSent_status : (s.recordSent).status = s.status := rfl
@[simp] theorem State.recordSent_handed : (s.recordSent).handed = s.handed := rfl
@[simp] theorem State.recordSent_now : (s.recordSent).now = s.now := rfl
@[simp] theorem State.recordSent_pending : (s.recordSent).pending = s.pending := rfl
@[simp] theorem State.recordSent_cfg : (s.recordSent).cfg = s.cfg := rfl
@[simp] theorem State.recordSent_stationId : (s.recordSent).stationId = s.stationId := rfl

/-! ### `State.clearEarly` -/

@[simp] theorem State.clearEarly_pins : (s.clearEarly).pins = s.pins := rfl
@[simp] theorem State.clearEarly_loader : (s.clearEarly).loader = s.loader := rfl
@[simp] theorem State.clearEarly_tracker : (s.clearEarly).tracker = s.tracker := rfl
@[simp] theorem State.clearEarly_bus : (s.clearEarly).bus = s.bus := rfl
@[simp] theorem State.clearEarly_gauge : (s.clearEarly).gauge = s.gauge := rfl
@[simp] theorem State.clearEarly_table : (s.clearEarly).table = s.table := rfl
@[simp] theorem State.clearEarly_engine : (s.clearEarly).engine = s.engine := rfl
@[simp] theorem State.clearEarly_cradles : (s.clearEarly).cradles = s.cradles := rfl
@[simp] theorem State.clearEarly_release : (s.clearEarly).release = s.release := rfl
@[simp] theorem State.clearEarly_tie : (s.clearEarly).tie = { s.tie with earlyAck := false } := rfl
@[simp] theorem State.clearEarly_status : (s.clearEarly).status = s.status := rfl
@[simp] theorem State.clearEarly_handed : (s.clearEarly).handed = s.handed := rfl
@[simp] theorem State.clearEarly_now : (s.clearEarly).now = s.now := rfl
@[simp] theorem State.clearEarly_pending : (s.clearEarly).pending = s.pending := rfl
@[simp] theorem State.clearEarly_cfg : (s.clearEarly).cfg = s.cfg := rfl
@[simp] theorem State.clearEarly_stationId : (s.clearEarly).stationId = s.stationId := rfl

/-! ### `State.setSnapshot` -/

@[simp] theorem State.setSnapshot_pins (r : Option (List Byte)) : (s.setSnapshot r).pins = s.pins := rfl
@[simp] theorem State.setSnapshot_loader (r : Option (List Byte)) : (s.setSnapshot r).loader = s.loader := rfl
@[simp] theorem State.setSnapshot_tracker (r : Option (List Byte)) :
    (s.setSnapshot r).tracker = s.tracker := rfl
@[simp] theorem State.setSnapshot_bus (r : Option (List Byte)) : (s.setSnapshot r).bus = s.bus := rfl
@[simp] theorem State.setSnapshot_gauge (r : Option (List Byte)) : (s.setSnapshot r).gauge = s.gauge := rfl
@[simp] theorem State.setSnapshot_table (r : Option (List Byte)) : (s.setSnapshot r).table = s.table := rfl
@[simp] theorem State.setSnapshot_engine (r : Option (List Byte)) : (s.setSnapshot r).engine = s.engine := rfl
@[simp] theorem State.setSnapshot_cradles (r : Option (List Byte)) :
    (s.setSnapshot r).cradles = s.cradles := rfl
@[simp] theorem State.setSnapshot_release (r : Option (List Byte)) :
    (s.setSnapshot r).release = s.release := rfl
@[simp] theorem State.setSnapshot_tie (r : Option (List Byte)) : (s.setSnapshot r).tie = s.tie := rfl
@[simp] theorem State.setSnapshot_status (r : Option (List Byte)) :
    (s.setSnapshot r).status = { s.status with snapshot := r } := rfl
@[simp] theorem State.setSnapshot_handed (r : Option (List Byte)) : (s.setSnapshot r).handed = s.handed := rfl
@[simp] theorem State.setSnapshot_now (r : Option (List Byte)) : (s.setSnapshot r).now = s.now := rfl
@[simp] theorem State.setSnapshot_pending (r : Option (List Byte)) :
    (s.setSnapshot r).pending = s.pending := rfl
@[simp] theorem State.setSnapshot_cfg (r : Option (List Byte)) : (s.setSnapshot r).cfg = s.cfg := rfl
@[simp] theorem State.setSnapshot_stationId (r : Option (List Byte)) : (s.setSnapshot r).stationId = s.stationId := rfl

/-! ### A field of a choice between two states -/

@[simp] theorem State.ite_pins (p : Prop) [Decidable p] (a b : State) :
    (if p then a else b).pins = if p then a.pins else b.pins := apply_ite State.pins p a b
@[simp] theorem State.ite_loader (p : Prop) [Decidable p] (a b : State) :
    (if p then a else b).loader = if p then a.loader else b.loader := apply_ite State.loader p a b
@[simp] theorem State.ite_tracker (p : Prop) [Decidable p] (a b : State) :
    (if p then a else b).tracker = if p then a.tracker else b.tracker := apply_ite State.tracker p a b
@[simp] theorem State.ite_bus (p : Prop) [Decidable p] (a b : State) :
    (if p then a else b).bus = if p then a.bus else b.bus := apply_ite State.bus p a b
@[simp] theorem State.ite_gauge (p : Prop) [Decidable p] (a b : State) :
    (if p then a else b).gauge = if p then a.gauge else b.gauge := apply_ite State.gauge p a b
@[simp] theorem State.ite_table (p : Prop) [Decidable p] (a b : State) :
    (if p then a else b).table = if p then a.table else b.table := apply_ite State.table p a b
@[simp] theorem State.ite_engine (p : Prop) [Decidable p] (a b : State) :
    (if p then a else b).engine = if p then a.engine else b.engine := apply_ite State.engine p a b
@[simp] theorem State.ite_cradles (p : Prop) [Decidable p] (a b : State) :
    (if p then a else b).cradles = if p then a.cradles else b.cradles := apply_ite State.cradles p a b
@[simp] theorem State.ite_release (p : Prop) [Decidable p] (a b : State) :
    (if p then a else b).release = if p then a.release else b.release := apply_ite State.release p a b
@[simp] theorem State.ite_tie (p : Prop) [Decidable p] (a b : State) :
    (if p then a else b).tie = if p then a.tie else b.tie := apply_ite State.tie p a b
@[simp] theorem State.ite_status (p : Prop) [Decidable p] (a b : State) :
    (if p then a else b).status = if p then a.status else b.status := apply_ite State.status p a b
@[simp] theorem State.ite_handed (p : Prop) [Decidable p] (a b : State) :
    (if p then a else b).handed = if p then a.handed else b.handed := apply_ite State.handed p a b
@[simp] theorem State.ite_now (p : Prop) [Decidable p] (a b : State) :
    (if p then a else b).now = if p then a.now else b.now := apply_ite State.now p a b
@[simp] theorem State.ite_pending (p : Prop) [Decidable p] (a b : State) :
    (if p then a else b).pending = if p then a.pending else b.pending := apply_ite State.pending p a b
@[simp] theorem State.ite_cfg (p : Prop) [Decidable p] (a b : State) :
    (if p then a else b).cfg = if p then a.cfg else b.cfg := apply_ite State.cfg p a b

/-! ### Records of the cradles -/

@[simp] theorem State.setCradle_cradle (c : CradleId) (k : Cradle) : (s.setCradle c k).cradle c = k := by
  cases c <;> rfl

@[simp] theorem State.setCradle_cradle_other (c : CradleId) (k : Cradle) :
    (s.setCradle c k).cradle (otherCradle c) = s.cradle (otherCradle c) := by
  cases c <;> rfl

theorem State.setCradle_cradle_ne {c d : CradleId} (k : Cradle) (h : d ≠ c) :
    (s.setCradle c k).cradle d = s.cradle d := by
  cases c <;> cases d <;> first | rfl | exact absurd rfl h

@[simp] theorem State.setCradle_setCradle (c : CradleId) (k j : Cradle) :
    (s.setCradle c k).setCradle c j = s.setCradle c j := by
  cases c <;> rfl

@[simp] theorem State.setCradle_tieQueue (c : CradleId) (k : Cradle) :
    (s.setCradle c k).cradles.tieQueue = s.cradles.tieQueue := by
  cases c <;> rfl

@[simp] theorem State.setCradle_held (c : CradleId) (k : Cradle) :
    (s.setCradle c k).cradles.held = s.cradles.held := by
  cases c <;> rfl

@[simp] theorem State.setCradle_bunchSequence (c : CradleId) (k : Cradle) :
    (s.setCradle c k).cradles.bunchSequence = s.cradles.bunchSequence := by
  cases c <;> rfl

/-! ### Counters and flags -/

theorem Counters.get_put_self (c : Counters) (v : Word16) (n : CounterName) : (c.put v n).get n = v := by
  cases n <;> rfl

theorem Counters.get_put_other (c : Counters) (v : Word16) {n m : CounterName} (h : m ≠ n) :
    (c.put v n).get m = c.get m := by
  cases n <;> cases m <;> first | rfl | exact absurd rfl h

theorem Flags.get_put_self (f : Flags) (v : Bool) (n : FlagName) : (f.put v n).get n = v := by
  cases n <;> rfl

theorem Flags.get_put_other (f : Flags) (v : Bool) {n m : FlagName} (h : m ≠ n) :
    (f.put v n).get m = f.get m := by
  cases n <;> cases m <;> first | rfl | exact absurd rfl h

@[simp] theorem State.bump_counter_self (n : CounterName) : (s.bump n).counter n = countUp (s.counter n) :=
  Counters.get_put_self _ _ _

@[simp] theorem State.bump_counter_other {n m : CounterName} (h : m ≠ n) :
    (s.bump n).counter m = s.counter m :=
  Counters.get_put_other _ _ h

@[simp] theorem State.raise_flag_self (f : FlagName) : (s.raise f).flag f = true :=
  Flags.get_put_self _ _ _

@[simp] theorem State.raise_flag_other {f g : FlagName} (h : g ≠ f) : (s.raise f).flag g = s.flag g :=
  Flags.get_put_other _ _ h

@[simp] theorem State.bump_flag (n : CounterName) (f : FlagName) : (s.bump n).flag f = s.flag f := rfl

@[simp] theorem State.raise_counter (f : FlagName) (n : CounterName) : (s.raise f).counter n = s.counter n := rfl

end Sys2Proof.Machine
end

