-- ==== Sys2Proof/Laws/Frames.lean ====
section
/-! SUPPORT. Frame lemmas: for each shared operation, the parts of the state it leaves as they were. A prover
cites them in place of unfolding the operation. -/

namespace Sys2Proof.Machine

variable (s : State)

/-! ### The transmit queue -/

@[simp] theorem State.offer_frame (f : Frame) :
    ((s.offer f).2).pins = s.pins ∧ ((s.offer f).2).loader = s.loader ∧ ((s.offer f).2).tracker = s.tracker
    ∧ ((s.offer f).2).gauge = s.gauge ∧ ((s.offer f).2).table = s.table ∧ ((s.offer f).2).engine = s.engine
    ∧ ((s.offer f).2).cradles = s.cradles ∧ ((s.offer f).2).release = s.release ∧ ((s.offer f).2).tie = s.tie
    ∧ ((s.offer f).2).now = s.now ∧ ((s.offer f).2).pending = s.pending := by
  unfold State.offer State.evictFor
  (repeat' split) <;> simp

@[simp] theorem State.offered_frame (f : Frame) :
    (s.offered f).pins = s.pins ∧ (s.offered f).loader = s.loader ∧ (s.offered f).tracker = s.tracker
    ∧ (s.offered f).gauge = s.gauge ∧ (s.offered f).table = s.table ∧ (s.offered f).engine = s.engine
    ∧ (s.offered f).cradles = s.cradles ∧ (s.offered f).release = s.release ∧ (s.offered f).tie = s.tie
    ∧ (s.offered f).now = s.now ∧ (s.offered f).pending = s.pending := by
  unfold State.offered
  (repeat' split) <;> simp

@[simp] theorem State.requestRemoval_frame (b : FrameBody) :
    ((s.requestRemoval b).2).pins = s.pins ∧ ((s.requestRemoval b).2).loader = s.loader ∧ ((s.requestRemoval b).2).tracker = s.tracker
    ∧ ((s.requestRemoval b).2).gauge = s.gauge ∧ ((s.requestRemoval b).2).table = s.table ∧ ((s.requestRemoval b).2).engine = s.engine
    ∧ ((s.requestRemoval b).2).cradles = s.cradles ∧ ((s.requestRemoval b).2).release = s.release ∧ ((s.requestRemoval b).2).tie = s.tie
    ∧ ((s.requestRemoval b).2).status = s.status ∧ ((s.requestRemoval b).2).handed = s.handed ∧ ((s.requestRemoval b).2).now = s.now
    ∧ ((s.requestRemoval b).2).pending = s.pending := by
  unfold State.requestRemoval
  (repeat' split) <;> simp

@[simp] theorem State.expire_frame (b : FrameBody) :
    (s.expire b).pins = s.pins ∧ (s.expire b).loader = s.loader ∧ (s.expire b).tracker = s.tracker
    ∧ (s.expire b).bus = s.bus ∧ (s.expire b).gauge = s.gauge ∧ (s.expire b).table = s.table
    ∧ (s.expire b).engine = s.engine ∧ (s.expire b).cradles = s.cradles ∧ (s.expire b).release = s.release
    ∧ (s.expire b).tie = s.tie ∧ (s.expire b).now = s.now ∧ (s.expire b).pending = s.pending := by
  unfold State.expire
  (repeat' split) <;> simp

/-! ### Cradles -/

@[simp] theorem State.noticeHead_frame :
    (s.noticeHead).pins = s.pins ∧ (s.noticeHead).loader = s.loader ∧ (s.noticeHead).tracker = s.tracker
    ∧ (s.noticeHead).bus = s.bus ∧ (s.noticeHead).gauge = s.gauge ∧ (s.noticeHead).table = s.table
    ∧ (s.noticeHead).engine = s.engine ∧ (s.noticeHead).cradles = s.cradles ∧ (s.noticeHead).release = s.release
    ∧ (s.noticeHead).tie = s.tie ∧ (s.noticeHead).status = s.status ∧ (s.noticeHead).now = s.now
    ∧ (s.noticeHead).pending = s.pending := by
  unfold State.noticeHead
  (repeat' split) <;> simp

@[simp] theorem State.enterReady_frame (c : CradleId) :
    (s.enterReady c).pins = s.pins ∧ (s.enterReady c).loader = s.loader ∧ (s.enterReady c).tracker = s.tracker
    ∧ (s.enterReady c).bus = s.bus ∧ (s.enterReady c).gauge = s.gauge ∧ (s.enterReady c).table = s.table
    ∧ (s.enterReady c).engine = s.engine ∧ (s.enterReady c).release = s.release ∧ (s.enterReady c).tie = s.tie
    ∧ (s.enterReady c).now = s.now ∧ (s.enterReady c).pending = s.pending := by
  unfold State.enterReady
  (repeat' split) <;> simp

@[simp] theorem State.enterEmpty_frame (c : CradleId) :
    (s.enterEmpty c).pins = s.pins ∧ (s.enterEmpty c).loader = s.loader ∧ (s.enterEmpty c).tracker = s.tracker
    ∧ (s.enterEmpty c).bus = s.bus ∧ (s.enterEmpty c).gauge = s.gauge ∧ (s.enterEmpty c).table = s.table
    ∧ (s.enterEmpty c).engine = s.engine ∧ (s.enterEmpty c).release = s.release ∧ (s.enterEmpty c).tie = s.tie
    ∧ (s.enterEmpty c).status = s.status ∧ (s.enterEmpty c).now = s.now ∧ (s.enterEmpty c).pending = s.pending := by
  unfold State.enterEmpty
  (repeat' split) <;> simp

@[simp] theorem State.judgeIdleClose_frame (c : CradleId) :
    (s.judgeIdleClose c).pins = s.pins ∧ (s.judgeIdleClose c).loader = s.loader ∧ (s.judgeIdleClose c).tracker = s.tracker
    ∧ (s.judgeIdleClose c).bus = s.bus ∧ (s.judgeIdleClose c).gauge = s.gauge ∧ (s.judgeIdleClose c).table = s.table
    ∧ (s.judgeIdleClose c).engine = s.engine ∧ (s.judgeIdleClose c).release = s.release ∧ (s.judgeIdleClose c).tie = s.tie
    ∧ (s.judgeIdleClose c).now = s.now ∧ (s.judgeIdleClose c).pending = s.pending := by
  unfold State.judgeIdleClose
  (repeat' split) <;> simp

@[simp] theorem State.judgeIdleCloseIfReady_frame (c : CradleId) :
    (s.judgeIdleCloseIfReady c).pins = s.pins ∧ (s.judgeIdleCloseIfReady c).loader = s.loader ∧ (s.judgeIdleCloseIfReady c).tracker = s.tracker
    ∧ (s.judgeIdleCloseIfReady c).bus = s.bus ∧ (s.judgeIdleCloseIfReady c).gauge = s.gauge ∧ (s.judgeIdleCloseIfReady c).table = s.table
    ∧ (s.judgeIdleCloseIfReady c).engine = s.engine ∧ (s.judgeIdleCloseIfReady c).release = s.release ∧ (s.judgeIdleCloseIfReady c).tie = s.tie
    ∧ (s.judgeIdleCloseIfReady c).now = s.now ∧ (s.judgeIdleCloseIfReady c).pending = s.pending := by
  unfold State.judgeIdleCloseIfReady
  (repeat' split) <;> simp

@[simp] theorem State.leaveOpen_frame (c : CradleId) :
    (s.leaveOpen c).pins = s.pins ∧ (s.leaveOpen c).loader = s.loader ∧ (s.leaveOpen c).tracker = s.tracker
    ∧ (s.leaveOpen c).bus = s.bus ∧ (s.leaveOpen c).gauge = s.gauge ∧ (s.leaveOpen c).table = s.table
    ∧ (s.leaveOpen c).engine = s.engine ∧ (s.leaveOpen c).release = s.release ∧ (s.leaveOpen c).tie = s.tie
    ∧ (s.leaveOpen c).now = s.now ∧ (s.leaveOpen c).pending = s.pending := by
  unfold State.leaveOpen
  (repeat' split) <;> simp

@[simp] theorem State.judgeCradle_frame (c : CradleId) :
    (s.judgeCradle c).pins = s.pins ∧ (s.judgeCradle c).loader = s.loader ∧ (s.judgeCradle c).tracker = s.tracker
    ∧ (s.judgeCradle c).bus = s.bus ∧ (s.judgeCradle c).gauge = s.gauge ∧ (s.judgeCradle c).table = s.table
    ∧ (s.judgeCradle c).engine = s.engine ∧ (s.judgeCradle c).release = s.release ∧ (s.judgeCradle c).tie = s.tie
    ∧ (s.judgeCradle c).now = s.now ∧ (s.judgeCradle c).pending = s.pending := by
  unfold State.judgeCradle
  (repeat' split) <;> simp

@[simp] theorem State.reserve_frame (c : CradleId) (cls l : Nat) :
    (s.reserve c cls l).pins = s.pins ∧ (s.reserve c cls l).loader = s.loader ∧ (s.reserve c cls l).tracker = s.tracker
    ∧ (s.reserve c cls l).bus = s.bus ∧ (s.reserve c cls l).gauge = s.gauge ∧ (s.reserve c cls l).table = s.table
    ∧ (s.reserve c cls l).engine = s.engine ∧ (s.reserve c cls l).release = s.release ∧ (s.reserve c cls l).tie = s.tie
    ∧ (s.reserve c cls l).now = s.now ∧ (s.reserve c cls l).pending = s.pending := by
  unfold State.reserve
  (repeat' split) <;> simp

@[simp] theorem State.countWin_frame (c : CradleId) :
    (s.countWin c).pins = s.pins ∧ (s.countWin c).loader = s.loader ∧ (s.countWin c).tracker = s.tracker
    ∧ (s.countWin c).bus = s.bus ∧ (s.countWin c).gauge = s.gauge ∧ (s.countWin c).table = s.table
    ∧ (s.countWin c).engine = s.engine ∧ (s.countWin c).release = s.release ∧ (s.countWin c).tie = s.tie
    ∧ (s.countWin c).now = s.now ∧ (s.countWin c).pending = s.pending := by
  unfold State.countWin
  (repeat' split) <;> simp

@[simp] theorem State.countReturn_frame (c : CradleId) :
    (s.countReturn c).pins = s.pins ∧ (s.countReturn c).loader = s.loader ∧ (s.countReturn c).tracker = s.tracker
    ∧ (s.countReturn c).bus = s.bus ∧ (s.countReturn c).gauge = s.gauge ∧ (s.countReturn c).table = s.table
    ∧ (s.countReturn c).engine = s.engine ∧ (s.countReturn c).release = s.release ∧ (s.countReturn c).tie = s.tie
    ∧ (s.countReturn c).now = s.now ∧ (s.countReturn c).pending = s.pending := by
  unfold State.countReturn
  (repeat' split) <;> simp

@[simp] theorem State.countMiss_frame (c : CradleId) :
    (s.countMiss c).pins = s.pins ∧ (s.countMiss c).loader = s.loader ∧ (s.countMiss c).tracker = s.tracker
    ∧ (s.countMiss c).bus = s.bus ∧ (s.countMiss c).gauge = s.gauge ∧ (s.countMiss c).table = s.table
    ∧ (s.countMiss c).engine = s.engine ∧ (s.countMiss c).release = s.release ∧ (s.countMiss c).tie = s.tie
    ∧ (s.countMiss c).now = s.now ∧ (s.countMiss c).pending = s.pending := by
  unfold State.countMiss
  (repeat' split) <;> simp

@[simp] theorem State.countPlace_frame (c : CradleId) :
    (s.countPlace c).pins = s.pins ∧ (s.countPlace c).loader = s.loader ∧ (s.countPlace c).tracker = s.tracker
    ∧ (s.countPlace c).bus = s.bus ∧ (s.countPlace c).gauge = s.gauge ∧ (s.countPlace c).table = s.table
    ∧ (s.countPlace c).engine = s.engine ∧ (s.countPlace c).release = s.release ∧ (s.countPlace c).tie = s.tie
    ∧ (s.countPlace c).now = s.now ∧ (s.countPlace c).pending = s.pending := by
  unfold State.countPlace
  (repeat' split) <;> simp

@[simp] theorem State.countIdle_frame (c : CradleId) :
    (s.countIdle c).pins = s.pins ∧ (s.countIdle c).loader = s.loader ∧ (s.countIdle c).tracker = s.tracker
    ∧ (s.countIdle c).bus = s.bus ∧ (s.countIdle c).gauge = s.gauge ∧ (s.countIdle c).table = s.table
    ∧ (s.countIdle c).engine = s.engine ∧ (s.countIdle c).release = s.release ∧ (s.countIdle c).tie = s.tie
    ∧ (s.countIdle c).now = s.now ∧ (s.countIdle c).pending = s.pending := by
  unfold State.countIdle
  (repeat' split) <;> simp

@[simp] theorem State.closeCradle_frame (c : CradleId) :
    (s.closeCradle c).pins = s.pins ∧ (s.closeCradle c).loader = s.loader ∧ (s.closeCradle c).tracker = s.tracker
    ∧ (s.closeCradle c).bus = s.bus ∧ (s.closeCradle c).gauge = s.gauge ∧ (s.closeCradle c).table = s.table
    ∧ (s.closeCradle c).engine = s.engine ∧ (s.closeCradle c).release = s.release ∧ (s.closeCradle c).tie = s.tie
    ∧ (s.closeCradle c).now = s.now ∧ (s.closeCradle c).pending = s.pending := by
  unfold State.closeCradle
  (repeat' split) <;> simp

@[simp] theorem State.closeCradleOfLot_frame (l : Nat) (c : CradleId) :
    (s.closeCradleOfLot l c).pins = s.pins ∧ (s.closeCradleOfLot l c).loader = s.loader ∧ (s.closeCradleOfLot l c).tracker = s.tracker
    ∧ (s.closeCradleOfLot l c).bus = s.bus ∧ (s.closeCradleOfLot l c).gauge = s.gauge ∧ (s.closeCradleOfLot l c).table = s.table
    ∧ (s.closeCradleOfLot l c).engine = s.engine ∧ (s.closeCradleOfLot l c).release = s.release ∧ (s.closeCradleOfLot l c).tie = s.tie
    ∧ (s.closeCradleOfLot l c).now = s.now ∧ (s.closeCradleOfLot l c).pending = s.pending := by
  unfold State.closeCradleOfLot
  (repeat' split) <;> simp

@[simp] theorem State.clearReady_frame (c : CradleId) :
    (s.clearReady c).pins = s.pins ∧ (s.clearReady c).loader = s.loader ∧ (s.clearReady c).tracker = s.tracker
    ∧ (s.clearReady c).bus = s.bus ∧ (s.clearReady c).gauge = s.gauge ∧ (s.clearReady c).table = s.table
    ∧ (s.clearReady c).engine = s.engine ∧ (s.clearReady c).release = s.release ∧ (s.clearReady c).tie = s.tie
    ∧ (s.clearReady c).now = s.now ∧ (s.clearReady c).pending = s.pending := by
  unfold State.clearReady
  (repeat' split) <;> simp

@[simp] theorem State.clearBound_frame (c : CradleId) :
    (s.clearBound c).pins = s.pins ∧ (s.clearBound c).loader = s.loader ∧ (s.clearBound c).tracker = s.tracker
    ∧ (s.clearBound c).bus = s.bus ∧ (s.clearBound c).gauge = s.gauge ∧ (s.clearBound c).table = s.table
    ∧ (s.clearBound c).engine = s.engine ∧ (s.clearBound c).release = s.release ∧ (s.clearBound c).tie = s.tie
    ∧ (s.clearBound c).now = s.now ∧ (s.clearBound c).pending = s.pending := by
  unfold State.clearBound
  (repeat' split) <;> simp

@[simp] theorem State.clearCradle_frame (c : CradleId) :
    (s.clearCradle c).pins = s.pins ∧ (s.clearCradle c).loader = s.loader ∧ (s.clearCradle c).tracker = s.tracker
    ∧ (s.clearCradle c).bus = s.bus ∧ (s.clearCradle c).gauge = s.gauge ∧ (s.clearCradle c).table = s.table
    ∧ (s.clearCradle c).engine = s.engine ∧ (s.clearCradle c).release = s.release ∧ (s.clearCradle c).tie = s.tie
    ∧ (s.clearCradle c).now = s.now ∧ (s.clearCradle c).pending = s.pending := by
  unfold State.clearCradle
  (repeat' split) <;> simp

@[simp] theorem State.takeTieResult_frame (c : CradleId) (r : TieCode) :
    (s.takeTieResult c r).pins = s.pins ∧ (s.takeTieResult c r).loader = s.loader ∧ (s.takeTieResult c r).tracker = s.tracker
    ∧ (s.takeTieResult c r).bus = s.bus ∧ (s.takeTieResult c r).gauge = s.gauge ∧ (s.takeTieResult c r).table = s.table
    ∧ (s.takeTieResult c r).engine = s.engine ∧ (s.takeTieResult c r).release = s.release ∧ (s.takeTieResult c r).tie = s.tie
    ∧ (s.takeTieResult c r).now = s.now ∧ (s.takeTieResult c r).pending = s.pending := by
  unfold State.takeTieResult
  (repeat' split) <;> simp

/-! ### The flight table -/

@[simp] theorem State.withdrawNow_frame (x : Slot) (c : CradleId) (w : WithdrawalTarget) :
    (s.withdrawNow x c w).pins = s.pins ∧ (s.withdrawNow x c w).loader = s.loader ∧ (s.withdrawNow x c w).tracker = s.tracker
    ∧ (s.withdrawNow x c w).bus = s.bus ∧ (s.withdrawNow x c w).gauge = s.gauge ∧ (s.withdrawNow x c w).engine = s.engine
    ∧ (s.withdrawNow x c w).cradles = s.cradles ∧ (s.withdrawNow x c w).release = s.release ∧ (s.withdrawNow x c w).tie = s.tie
    ∧ (s.withdrawNow x c w).now = s.now ∧ (s.withdrawNow x c w).pending = s.pending := by
  unfold State.withdrawNow
  cases w <;> (try dsimp only) <;> (repeat' split) <;> simp

@[simp] theorem State.withdraw_frame (x : Slot) (w : Withdrawal) :
    (s.withdraw x w).pins = s.pins ∧ (s.withdraw x w).loader = s.loader ∧ (s.withdraw x w).tracker = s.tracker
    ∧ (s.withdraw x w).gauge = s.gauge ∧ (s.withdraw x w).engine = s.engine ∧ (s.withdraw x w).cradles = s.cradles
    ∧ (s.withdraw x w).release = s.release ∧ (s.withdraw x w).tie = s.tie ∧ (s.withdraw x w).now = s.now
    ∧ (s.withdraw x w).pending = s.pending := by
  unfold State.withdraw
  split
  · simp
  · split
    · next c y a hs =>
      have h := s.requestRemoval_frame (.claim x c)
      split
      next r s1 hr => rw [hr] at h; dsimp only at h; (repeat' split) <;> simp [h]
    all_goals simp

@[simp] theorem State.answerInTransmission_frame (x : Slot) :
    (s.answerInTransmission x).pins = s.pins ∧ (s.answerInTransmission x).loader = s.loader ∧ (s.answerInTransmission x).tracker = s.tracker
    ∧ (s.answerInTransmission x).bus = s.bus ∧ (s.answerInTransmission x).gauge = s.gauge ∧ (s.answerInTransmission x).engine = s.engine
    ∧ (s.answerInTransmission x).cradles = s.cradles ∧ (s.answerInTransmission x).release = s.release ∧ (s.answerInTransmission x).tie = s.tie
    ∧ (s.answerInTransmission x).status = s.status ∧ (s.answerInTransmission x).handed = s.handed ∧ (s.answerInTransmission x).now = s.now
    ∧ (s.answerInTransmission x).pending = s.pending := by
  unfold State.answerInTransmission
  (repeat' split) <;> simp

@[simp] theorem State.answerRemoved_frame (x : Slot) :
    (s.answerRemoved x).pins = s.pins ∧ (s.answerRemoved x).loader = s.loader ∧ (s.answerRemoved x).tracker = s.tracker
    ∧ (s.answerRemoved x).bus = s.bus ∧ (s.answerRemoved x).gauge = s.gauge ∧ (s.answerRemoved x).engine = s.engine
    ∧ (s.answerRemoved x).cradles = s.cradles ∧ (s.answerRemoved x).release = s.release ∧ (s.answerRemoved x).tie = s.tie
    ∧ (s.answerRemoved x).now = s.now ∧ (s.answerRemoved x).pending = s.pending := by
  unfold State.answerRemoved
  (repeat' split) <;> simp

@[simp] theorem State.yieldMine_frame (x : Slot) (c : CradleId) (r : YieldReason) :
    (s.yieldMine x c r).pins = s.pins ∧ (s.yieldMine x c r).loader = s.loader ∧ (s.yieldMine x c r).tracker = s.tracker
    ∧ (s.yieldMine x c r).bus = s.bus ∧ (s.yieldMine x c r).gauge = s.gauge ∧ (s.yieldMine x c r).engine = s.engine
    ∧ (s.yieldMine x c r).cradles = s.cradles ∧ (s.yieldMine x c r).release = s.release ∧ (s.yieldMine x c r).tie = s.tie
    ∧ (s.yieldMine x c r).status = s.status ∧ (s.yieldMine x c r).now = s.now ∧ (s.yieldMine x c r).pending = s.pending := by
  unfold State.yieldMine
  (repeat' split) <;> simp

@[simp] theorem State.yieldRemoved_frame (x : Slot) (c : CradleId) (r : YieldReason) :
    (s.yieldRemoved x c r).pins = s.pins ∧ (s.yieldRemoved x c r).loader = s.loader ∧ (s.yieldRemoved x c r).tracker = s.tracker
    ∧ (s.yieldRemoved x c r).bus = s.bus ∧ (s.yieldRemoved x c r).gauge = s.gauge ∧ (s.yieldRemoved x c r).engine = s.engine
    ∧ (s.yieldRemoved x c r).cradles = s.cradles ∧ (s.yieldRemoved x c r).release = s.release ∧ (s.yieldRemoved x c r).tie = s.tie
    ∧ (s.yieldRemoved x c r).status = s.status ∧ (s.yieldRemoved x c r).now = s.now ∧ (s.yieldRemoved x c r).pending = s.pending := by
  unfold State.yieldRemoved
  (repeat' split) <;> simp

@[simp] theorem State.judgeStem_frame (x : Slot) (cls l : Nat) :
    (s.judgeStem x cls l).pins = s.pins ∧ (s.judgeStem x cls l).loader = s.loader ∧ (s.judgeStem x cls l).tracker = s.tracker
    ∧ (s.judgeStem x cls l).bus = s.bus ∧ (s.judgeStem x cls l).gauge = s.gauge ∧ (s.judgeStem x cls l).engine = s.engine
    ∧ (s.judgeStem x cls l).cradles = s.cradles ∧ (s.judgeStem x cls l).release = s.release ∧ (s.judgeStem x cls l).tie = s.tie
    ∧ (s.judgeStem x cls l).now = s.now ∧ (s.judgeStem x cls l).pending = s.pending := by
  unfold State.judgeStem
  (repeat' split) <;> simp

@[simp] theorem State.peerClaim_frame (x : Slot) (n : Nat) (st : EntryState) :
    (s.peerClaim x n st).pins = s.pins ∧ (s.peerClaim x n st).loader = s.loader ∧ (s.peerClaim x n st).tracker = s.tracker
    ∧ (s.peerClaim x n st).gauge = s.gauge ∧ (s.peerClaim x n st).engine = s.engine ∧ (s.peerClaim x n st).cradles = s.cradles
    ∧ (s.peerClaim x n st).release = s.release ∧ (s.peerClaim x n st).tie = s.tie ∧ (s.peerClaim x n st).now = s.now
    ∧ (s.peerClaim x n st).pending = s.pending := by
  unfold State.peerClaim
  (repeat' split) <;> simp

@[simp] theorem State.ownClaim_frame (x : Slot) (st : EntryState) :
    (s.ownClaim x st).pins = s.pins ∧ (s.ownClaim x st).loader = s.loader ∧ (s.ownClaim x st).tracker = s.tracker
    ∧ (s.ownClaim x st).gauge = s.gauge ∧ (s.ownClaim x st).engine = s.engine ∧ (s.ownClaim x st).cradles = s.cradles
    ∧ (s.ownClaim x st).release = s.release ∧ (s.ownClaim x st).tie = s.tie ∧ (s.ownClaim x st).now = s.now
    ∧ (s.ownClaim x st).pending = s.pending := by
  unfold State.ownClaim
  (repeat' split) <;> simp

@[simp] theorem State.judgeClaim_frame (x : Slot) (n : Nat) :
    (s.judgeClaim x n).pins = s.pins ∧ (s.judgeClaim x n).loader = s.loader ∧ (s.judgeClaim x n).tracker = s.tracker
    ∧ (s.judgeClaim x n).gauge = s.gauge ∧ (s.judgeClaim x n).engine = s.engine ∧ (s.judgeClaim x n).cradles = s.cradles
    ∧ (s.judgeClaim x n).release = s.release ∧ (s.judgeClaim x n).tie = s.tie ∧ (s.judgeClaim x n).now = s.now
    ∧ (s.judgeClaim x n).pending = s.pending := by
  unfold State.judgeClaim
  (repeat' split) <;> simp

@[simp] theorem State.judgeYield_frame (x : Slot) (n : Nat) :
    (s.judgeYield x n).pins = s.pins ∧ (s.judgeYield x n).loader = s.loader ∧ (s.judgeYield x n).tracker = s.tracker
    ∧ (s.judgeYield x n).bus = s.bus ∧ (s.judgeYield x n).gauge = s.gauge ∧ (s.judgeYield x n).engine = s.engine
    ∧ (s.judgeYield x n).cradles = s.cradles ∧ (s.judgeYield x n).release = s.release ∧ (s.judgeYield x n).tie = s.tie
    ∧ (s.judgeYield x n).now = s.now ∧ (s.judgeYield x n).pending = s.pending := by
  unfold State.judgeYield State.yieldEntry
  (repeat' split) <;> simp

@[simp] theorem State.fireNearest_frame :
    (s.fireNearest).pins = s.pins ∧ (s.fireNearest).loader = s.loader ∧ (s.fireNearest).tracker = s.tracker
    ∧ (s.fireNearest).bus = s.bus ∧ (s.fireNearest).gauge = s.gauge ∧ (s.fireNearest).engine = s.engine
    ∧ (s.fireNearest).cradles = s.cradles ∧ (s.fireNearest).release = s.release ∧ (s.fireNearest).tie = s.tie
    ∧ (s.fireNearest).status = s.status ∧ (s.fireNearest).now = s.now ∧ (s.fireNearest).pending = s.pending := by
  unfold State.fireNearest
  (repeat' split) <;> simp

@[simp] theorem State.judgeLot_frame (l : Nat) (x : Slot) :
    (s.judgeLot l x).pins = s.pins ∧ (s.judgeLot l x).loader = s.loader ∧ (s.judgeLot l x).tracker = s.tracker
    ∧ (s.judgeLot l x).bus = s.bus ∧ (s.judgeLot l x).gauge = s.gauge ∧ (s.judgeLot l x).engine = s.engine
    ∧ (s.judgeLot l x).cradles = s.cradles ∧ (s.judgeLot l x).release = s.release ∧ (s.judgeLot l x).tie = s.tie
    ∧ (s.judgeLot l x).status = s.status ∧ (s.judgeLot l x).now = s.now ∧ (s.judgeLot l x).pending = s.pending := by
  unfold State.judgeLot
  (repeat' split) <;> simp

@[simp] theorem State.fireLots_frame (p : LotClose → Bool) :
    (s.fireLots p).pins = s.pins ∧ (s.fireLots p).loader = s.loader ∧ (s.fireLots p).tracker = s.tracker
    ∧ (s.fireLots p).bus = s.bus ∧ (s.fireLots p).gauge = s.gauge ∧ (s.fireLots p).engine = s.engine
    ∧ (s.fireLots p).cradles = s.cradles ∧ (s.fireLots p).release = s.release ∧ (s.fireLots p).tie = s.tie
    ∧ (s.fireLots p).status = s.status ∧ (s.fireLots p).now = s.now ∧ (s.fireLots p).pending = s.pending := by
  unfold State.fireLots
  (repeat' split) <;> simp

@[simp] theorem State.passEvent_frame (n : Ticks) (e : FlightEntry) :
    (s.passEvent n e).pins = s.pins ∧ (s.passEvent n e).loader = s.loader ∧ (s.passEvent n e).tracker = s.tracker
    ∧ (s.passEvent n e).gauge = s.gauge ∧ (s.passEvent n e).engine = s.engine ∧ (s.passEvent n e).cradles = s.cradles
    ∧ (s.passEvent n e).release = s.release ∧ (s.passEvent n e).tie = s.tie ∧ (s.passEvent n e).now = s.now
    ∧ (s.passEvent n e).pending = s.pending := by
  unfold State.passEvent
  (repeat' split) <;> simp

@[simp] theorem State.slipRemoval_frame (e : FlightEntry) :
    (s.slipRemoval e).pins = s.pins ∧ (s.slipRemoval e).loader = s.loader ∧ (s.slipRemoval e).tracker = s.tracker
    ∧ (s.slipRemoval e).gauge = s.gauge ∧ (s.slipRemoval e).engine = s.engine ∧ (s.slipRemoval e).cradles = s.cradles
    ∧ (s.slipRemoval e).release = s.release ∧ (s.slipRemoval e).tie = s.tie ∧ (s.slipRemoval e).now = s.now
    ∧ (s.slipRemoval e).pending = s.pending := by
  unfold State.slipRemoval
  (repeat' split) <;> simp

@[simp] theorem State.giveBack_frame (r : YieldReason) (e : FlightEntry) :
    (s.giveBack r e).pins = s.pins ∧ (s.giveBack r e).loader = s.loader ∧ (s.giveBack r e).tracker = s.tracker
    ∧ (s.giveBack r e).gauge = s.gauge ∧ (s.giveBack r e).engine = s.engine ∧ (s.giveBack r e).cradles = s.cradles
    ∧ (s.giveBack r e).release = s.release ∧ (s.giveBack r e).tie = s.tie ∧ (s.giveBack r e).now = s.now
    ∧ (s.giveBack r e).pending = s.pending := by
  unfold State.giveBack
  (repeat' split) <;> simp

@[simp] theorem State.takeClaimOutcome_frame (x : Slot) (o : FrameOutcome) :
    (s.takeClaimOutcome x o).pins = s.pins ∧ (s.takeClaimOutcome x o).loader = s.loader ∧ (s.takeClaimOutcome x o).tracker = s.tracker
    ∧ (s.takeClaimOutcome x o).bus = s.bus ∧ (s.takeClaimOutcome x o).gauge = s.gauge ∧ (s.takeClaimOutcome x o).engine = s.engine
    ∧ (s.takeClaimOutcome x o).cradles = s.cradles ∧ (s.takeClaimOutcome x o).release = s.release ∧ (s.takeClaimOutcome x o).tie = s.tie
    ∧ (s.takeClaimOutcome x o).now = s.now ∧ (s.takeClaimOutcome x o).pending = s.pending := by
  unfold State.takeClaimOutcome
  (repeat' split) <;> simp

@[simp] theorem State.haltFlightTable_frame :
    (s.haltFlightTable).pins = s.pins ∧ (s.haltFlightTable).loader = s.loader ∧ (s.haltFlightTable).tracker = s.tracker
    ∧ (s.haltFlightTable).bus = s.bus ∧ (s.haltFlightTable).gauge = s.gauge ∧ (s.haltFlightTable).engine = s.engine
    ∧ (s.haltFlightTable).cradles = s.cradles ∧ (s.haltFlightTable).release = s.release ∧ (s.haltFlightTable).tie = s.tie
    ∧ (s.haltFlightTable).status = s.status ∧ (s.haltFlightTable).now = s.now ∧ (s.haltFlightTable).pending = s.pending := by
  unfold State.haltFlightTable
  (repeat' split) <;> simp

/-! ### The line bus -/

@[simp] theorem State.answerHeld_frame (r : RemovalAnswer) :
    (s.answerHeld r).pins = s.pins ∧ (s.answerHeld r).loader = s.loader ∧ (s.answerHeld r).tracker = s.tracker
    ∧ (s.answerHeld r).gauge = s.gauge ∧ (s.answerHeld r).table = s.table ∧ (s.answerHeld r).engine = s.engine
    ∧ (s.answerHeld r).cradles = s.cradles ∧ (s.answerHeld r).release = s.release ∧ (s.answerHeld r).tie = s.tie
    ∧ (s.answerHeld r).status = s.status ∧ (s.answerHeld r).handed = s.handed ∧ (s.answerHeld r).now = s.now
    ∧ (s.answerHeld r).pending = s.pending := by
  unfold State.answerHeld
  (repeat' split) <;> simp

@[simp] theorem State.answerLeft_frame (r : RemovalAnswer) (b : FrameBody) :
    (s.answerLeft r b).pins = s.pins ∧ (s.answerLeft r b).loader = s.loader ∧ (s.answerLeft r b).tracker = s.tracker
    ∧ (s.answerLeft r b).gauge = s.gauge ∧ (s.answerLeft r b).engine = s.engine ∧ (s.answerLeft r b).cradles = s.cradles
    ∧ (s.answerLeft r b).release = s.release ∧ (s.answerLeft r b).tie = s.tie ∧ (s.answerLeft r b).now = s.now
    ∧ (s.answerLeft r b).pending = s.pending := by
  unfold State.answerLeft
  (repeat' split) <;> simp

@[simp] theorem State.loseContention_frame :
    (s.loseContention).pins = s.pins ∧ (s.loseContention).loader = s.loader ∧ (s.loseContention).tracker = s.tracker
    ∧ (s.loseContention).gauge = s.gauge ∧ (s.loseContention).engine = s.engine ∧ (s.loseContention).cradles = s.cradles
    ∧ (s.loseContention).release = s.release ∧ (s.loseContention).tie = s.tie ∧ (s.loseContention).now = s.now
    ∧ (s.loseContention).pending = s.pending := by
  unfold State.loseContention State.leaveContended
  (repeat' split) <;> simp

@[simp] theorem State.answerSending_frame (b : FrameBody) :
    (s.answerSending b).pins = s.pins ∧ (s.answerSending b).loader = s.loader ∧ (s.answerSending b).tracker = s.tracker
    ∧ (s.answerSending b).gauge = s.gauge ∧ (s.answerSending b).engine = s.engine ∧ (s.answerSending b).cradles = s.cradles
    ∧ (s.answerSending b).release = s.release ∧ (s.answerSending b).tie = s.tie ∧ (s.answerSending b).status = s.status
    ∧ (s.answerSending b).handed = s.handed ∧ (s.answerSending b).now = s.now ∧ (s.answerSending b).pending = s.pending := by
  unfold State.answerSending
  (repeat' split) <;> simp

@[simp] theorem State.spoilFrame_frame (b : FrameBody) :
    (s.spoilFrame b).pins = s.pins ∧ (s.spoilFrame b).loader = s.loader ∧ (s.spoilFrame b).tracker = s.tracker
    ∧ (s.spoilFrame b).gauge = s.gauge ∧ (s.spoilFrame b).table = s.table ∧ (s.spoilFrame b).engine = s.engine
    ∧ (s.spoilFrame b).cradles = s.cradles ∧ (s.spoilFrame b).release = s.release ∧ (s.spoilFrame b).tie = s.tie
    ∧ (s.spoilFrame b).now = s.now ∧ (s.spoilFrame b).pending = s.pending := by
  unfold State.spoilFrame
  (repeat' split) <;> simp

@[simp] theorem State.haltReport_frame :
    (s.haltReport).pins = s.pins ∧ (s.haltReport).tracker = s.tracker ∧ (s.haltReport).bus = s.bus
    ∧ (s.haltReport).gauge = s.gauge ∧ (s.haltReport).table = s.table ∧ (s.haltReport).engine = s.engine
    ∧ (s.haltReport).cradles = s.cradles ∧ (s.haltReport).release = s.release ∧ (s.haltReport).tie = s.tie
    ∧ (s.haltReport).status = s.status ∧ (s.haltReport).now = s.now ∧ (s.haltReport).pending = s.pending := by
  unfold State.haltReport
  (repeat' split) <;> simp

@[simp] theorem State.acceptFrame_frame (f : Frame) :
    (s.acceptFrame f).pins = s.pins ∧ (s.acceptFrame f).loader = s.loader ∧ (s.acceptFrame f).tracker = s.tracker
    ∧ (s.acceptFrame f).gauge = s.gauge ∧ (s.acceptFrame f).table = s.table ∧ (s.acceptFrame f).engine = s.engine
    ∧ (s.acceptFrame f).cradles = s.cradles ∧ (s.acceptFrame f).release = s.release ∧ (s.acceptFrame f).tie = s.tie
    ∧ (s.acceptFrame f).now = s.now ∧ (s.acceptFrame f).pending = s.pending := by
  unfold State.acceptFrame
  (repeat' split) <;> simp

@[simp] theorem State.hearFrame_frame (own : Bool) (f : Frame) :
    (s.hearFrame own f).pins = s.pins ∧ (s.hearFrame own f).tracker = s.tracker ∧ (s.hearFrame own f).gauge = s.gauge
    ∧ (s.hearFrame own f).table = s.table ∧ (s.hearFrame own f).engine = s.engine ∧ (s.hearFrame own f).cradles = s.cradles
    ∧ (s.hearFrame own f).release = s.release ∧ (s.hearFrame own f).tie = s.tie ∧ (s.hearFrame own f).now = s.now
    ∧ (s.hearFrame own f).pending = s.pending := by
  unfold State.hearFrame
  (repeat' split) <;> simp

@[simp] theorem State.haltLineBus_frame :
    (s.haltLineBus).pins = s.pins ∧ (s.haltLineBus).loader = s.loader ∧ (s.haltLineBus).tracker = s.tracker
    ∧ (s.haltLineBus).gauge = s.gauge ∧ (s.haltLineBus).table = s.table ∧ (s.haltLineBus).engine = s.engine
    ∧ (s.haltLineBus).cradles = s.cradles ∧ (s.haltLineBus).release = s.release ∧ (s.haltLineBus).tie = s.tie
    ∧ (s.haltLineBus).status = s.status ∧ (s.haltLineBus).now = s.now ∧ (s.haltLineBus).pending = s.pending := by
  unfold State.haltLineBus
  (repeat' split) <;> simp

@[simp] theorem State.countDiscard_frame :
    (s.countDiscard).pins = s.pins ∧ (s.countDiscard).loader = s.loader ∧ (s.countDiscard).tracker = s.tracker
    ∧ (s.countDiscard).bus = s.bus ∧ (s.countDiscard).gauge = s.gauge ∧ (s.countDiscard).table = s.table
    ∧ (s.countDiscard).engine = s.engine ∧ (s.countDiscard).cradles = s.cradles ∧ (s.countDiscard).release = s.release
    ∧ (s.countDiscard).tie = s.tie ∧ (s.countDiscard).handed = s.handed ∧ (s.countDiscard).now = s.now
    ∧ (s.countDiscard).pending = s.pending := by
  unfold State.countDiscard
  (repeat' split) <;> simp

@[simp] theorem State.spoilSending_frame :
    (s.spoilSending).pins = s.pins ∧ (s.spoilSending).loader = s.loader ∧ (s.spoilSending).tracker = s.tracker
    ∧ (s.spoilSending).gauge = s.gauge ∧ (s.spoilSending).table = s.table ∧ (s.spoilSending).engine = s.engine
    ∧ (s.spoilSending).cradles = s.cradles ∧ (s.spoilSending).release = s.release ∧ (s.spoilSending).tie = s.tie
    ∧ (s.spoilSending).now = s.now ∧ (s.spoilSending).pending = s.pending := by
  unfold State.spoilSending
  (repeat' split) <;> simp

/-! ### The release unit -/

@[simp] theorem State.giveUp_frame (x : Slot) (c : CradleId) (r : YieldReason) :
    (s.giveUp x c r).pins = s.pins ∧ (s.giveUp x c r).loader = s.loader ∧ (s.giveUp x c r).tracker = s.tracker
    ∧ (s.giveUp x c r).bus = s.bus ∧ (s.giveUp x c r).gauge = s.gauge ∧ (s.giveUp x c r).table = s.table
    ∧ (s.giveUp x c r).engine = s.engine ∧ (s.giveUp x c r).cradles = s.cradles ∧ (s.giveUp x c r).release = s.release
    ∧ (s.giveUp x c r).tie = s.tie ∧ (s.giveUp x c r).status = s.status ∧ (s.giveUp x c r).now = s.now
    ∧ (s.giveUp x c r).pending = s.pending := by
  unfold State.giveUp
  (repeat' split) <;> simp

@[simp] theorem State.skipRelease_frame (x : Slot) (c : CradleId) :
    (s.skipRelease x c).pins = s.pins ∧ (s.skipRelease x c).loader = s.loader ∧ (s.skipRelease x c).tracker = s.tracker
    ∧ (s.skipRelease x c).bus = s.bus ∧ (s.skipRelease x c).gauge = s.gauge ∧ (s.skipRelease x c).table = s.table
    ∧ (s.skipRelease x c).engine = s.engine ∧ (s.skipRelease x c).cradles = s.cradles ∧ (s.skipRelease x c).release = s.release
    ∧ (s.skipRelease x c).tie = s.tie ∧ (s.skipRelease x c).now = s.now ∧ (s.skipRelease x c).pending = s.pending := by
  unfold State.skipRelease
  (repeat' split) <;> simp

@[simp] theorem State.judgeFlap_frame :
    (s.judgeFlap).pins = s.pins ∧ (s.judgeFlap).loader = s.loader ∧ (s.judgeFlap).tracker = s.tracker
    ∧ (s.judgeFlap).bus = s.bus ∧ (s.judgeFlap).gauge = s.gauge ∧ (s.judgeFlap).table = s.table
    ∧ (s.judgeFlap).engine = s.engine ∧ (s.judgeFlap).cradles = s.cradles ∧ (s.judgeFlap).tie = s.tie
    ∧ (s.judgeFlap).status = s.status ∧ (s.judgeFlap).handed = s.handed ∧ (s.judgeFlap).now = s.now
    ∧ (s.judgeFlap).pending = s.pending := by
  unfold State.judgeFlap
  (repeat' split) <;> simp

@[simp] theorem State.missRecord_frame (r : ReleaseRecord) :
    (s.missRecord r).pins = s.pins ∧ (s.missRecord r).loader = s.loader ∧ (s.missRecord r).tracker = s.tracker
    ∧ (s.missRecord r).bus = s.bus ∧ (s.missRecord r).gauge = s.gauge ∧ (s.missRecord r).table = s.table
    ∧ (s.missRecord r).engine = s.engine ∧ (s.missRecord r).cradles = s.cradles ∧ (s.missRecord r).release = s.release
    ∧ (s.missRecord r).tie = s.tie ∧ (s.missRecord r).now = s.now ∧ (s.missRecord r).pending = s.pending := by
  unfold State.missRecord
  (repeat' split) <;> simp

@[simp] theorem State.closeWindow_frame (w : ConfirmationWindow) :
    (s.closeWindow w).pins = s.pins ∧ (s.closeWindow w).loader = s.loader ∧ (s.closeWindow w).tracker = s.tracker
    ∧ (s.closeWindow w).bus = s.bus ∧ (s.closeWindow w).gauge = s.gauge ∧ (s.closeWindow w).table = s.table
    ∧ (s.closeWindow w).engine = s.engine ∧ (s.closeWindow w).cradles = s.cradles ∧ (s.closeWindow w).tie = s.tie
    ∧ (s.closeWindow w).now = s.now ∧ (s.closeWindow w).pending = s.pending := by
  unfold State.closeWindow
  (repeat' split) <;> simp

@[simp] theorem State.closeOpenWindow_frame :
    (s.closeOpenWindow).pins = s.pins ∧ (s.closeOpenWindow).loader = s.loader ∧ (s.closeOpenWindow).tracker = s.tracker
    ∧ (s.closeOpenWindow).bus = s.bus ∧ (s.closeOpenWindow).gauge = s.gauge ∧ (s.closeOpenWindow).table = s.table
    ∧ (s.closeOpenWindow).engine = s.engine ∧ (s.closeOpenWindow).cradles = s.cradles ∧ (s.closeOpenWindow).tie = s.tie
    ∧ (s.closeOpenWindow).now = s.now ∧ (s.closeOpenWindow).pending = s.pending := by
  unfold State.closeOpenWindow
  (repeat' split) <;> simp

@[simp] theorem State.makeRecord_frame (x : Slot) (c : CradleId) (n : Ticks) :
    (s.makeRecord x c n).pins = s.pins ∧ (s.makeRecord x c n).loader = s.loader ∧ (s.makeRecord x c n).tracker = s.tracker
    ∧ (s.makeRecord x c n).bus = s.bus ∧ (s.makeRecord x c n).gauge = s.gauge ∧ (s.makeRecord x c n).table = s.table
    ∧ (s.makeRecord x c n).engine = s.engine ∧ (s.makeRecord x c n).cradles = s.cradles ∧ (s.makeRecord x c n).tie = s.tie
    ∧ (s.makeRecord x c n).now = s.now ∧ (s.makeRecord x c n).pending = s.pending := by
  unfold State.makeRecord
  (repeat' split) <;> simp

@[simp] theorem State.endPulse_frame :
    (s.endPulse).pins = s.pins ∧ (s.endPulse).loader = s.loader ∧ (s.endPulse).tracker = s.tracker
    ∧ (s.endPulse).bus = s.bus ∧ (s.endPulse).gauge = s.gauge ∧ (s.endPulse).table = s.table
    ∧ (s.endPulse).engine = s.engine ∧ (s.endPulse).cradles = s.cradles ∧ (s.endPulse).tie = s.tie
    ∧ (s.endPulse).status = s.status ∧ (s.endPulse).handed = s.handed ∧ (s.endPulse).now = s.now
    ∧ (s.endPulse).pending = s.pending := by
  unfold State.endPulse
  (repeat' split) <;> simp

@[simp] theorem State.cutPulse_frame :
    (s.cutPulse).pins = s.pins ∧ (s.cutPulse).loader = s.loader ∧ (s.cutPulse).tracker = s.tracker
    ∧ (s.cutPulse).bus = s.bus ∧ (s.cutPulse).gauge = s.gauge ∧ (s.cutPulse).table = s.table
    ∧ (s.cutPulse).engine = s.engine ∧ (s.cutPulse).cradles = s.cradles ∧ (s.cutPulse).tie = s.tie
    ∧ (s.cutPulse).handed = s.handed ∧ (s.cutPulse).now = s.now ∧ (s.cutPulse).pending = s.pending := by
  unfold State.cutPulse
  (repeat' split) <;> simp

@[simp] theorem State.dropOvertaken_frame (b : Bool) :
    (s.dropOvertaken b).pins = s.pins ∧ (s.dropOvertaken b).loader = s.loader ∧ (s.dropOvertaken b).tracker = s.tracker
    ∧ (s.dropOvertaken b).bus = s.bus ∧ (s.dropOvertaken b).gauge = s.gauge ∧ (s.dropOvertaken b).table = s.table
    ∧ (s.dropOvertaken b).engine = s.engine ∧ (s.dropOvertaken b).cradles = s.cradles ∧ (s.dropOvertaken b).tie = s.tie
    ∧ (s.dropOvertaken b).now = s.now ∧ (s.dropOvertaken b).pending = s.pending := by
  unfold State.dropOvertaken
  (repeat' split) <;> simp

@[simp] theorem State.carrierStep_frame (b : Bool) :
    (s.carrierStep b).pins = s.pins ∧ (s.carrierStep b).loader = s.loader ∧ (s.carrierStep b).tracker = s.tracker
    ∧ (s.carrierStep b).bus = s.bus ∧ (s.carrierStep b).gauge = s.gauge ∧ (s.carrierStep b).table = s.table
    ∧ (s.carrierStep b).engine = s.engine ∧ (s.carrierStep b).cradles = s.cradles ∧ (s.carrierStep b).tie = s.tie
    ∧ (s.carrierStep b).now = s.now ∧ (s.carrierStep b).pending = s.pending := by
  unfold State.carrierStep
  (repeat' split) <;> simp

@[simp] theorem State.stepOnce_frame (x : Slot) :
    (s.stepOnce x).pins = s.pins ∧ (s.stepOnce x).loader = s.loader ∧ (s.stepOnce x).tracker = s.tracker
    ∧ (s.stepOnce x).bus = s.bus ∧ (s.stepOnce x).gauge = s.gauge ∧ (s.stepOnce x).table = s.table
    ∧ (s.stepOnce x).engine = s.engine ∧ (s.stepOnce x).cradles = s.cradles ∧ (s.stepOnce x).tie = s.tie
    ∧ (s.stepOnce x).now = s.now ∧ (s.stepOnce x).pending = s.pending := by
  unfold State.stepOnce
  (repeat' split) <;> simp

@[simp] theorem State.startPulse_frame (r : ReleaseRecord) :
    (s.startPulse r).pins = s.pins ∧ (s.startPulse r).loader = s.loader ∧ (s.startPulse r).tracker = s.tracker
    ∧ (s.startPulse r).bus = s.bus ∧ (s.startPulse r).gauge = s.gauge ∧ (s.startPulse r).table = s.table
    ∧ (s.startPulse r).engine = s.engine ∧ (s.startPulse r).cradles = s.cradles ∧ (s.startPulse r).tie = s.tie
    ∧ (s.startPulse r).now = s.now ∧ (s.startPulse r).pending = s.pending := by
  unfold State.startPulse
  (repeat' split) <;> simp

@[simp] theorem State.stray_frame (c : CradleId) :
    (s.stray c).pins = s.pins ∧ (s.stray c).loader = s.loader ∧ (s.stray c).tracker = s.tracker
    ∧ (s.stray c).bus = s.bus ∧ (s.stray c).gauge = s.gauge ∧ (s.stray c).table = s.table
    ∧ (s.stray c).engine = s.engine ∧ (s.stray c).cradles = s.cradles ∧ (s.stray c).release = s.release
    ∧ (s.stray c).tie = s.tie ∧ (s.stray c).now = s.now ∧ (s.stray c).pending = s.pending := by
  unfold State.stray
  (repeat' split) <;> simp

@[simp] theorem State.judgeEdge_frame :
    (s.judgeEdge).pins = s.pins ∧ (s.judgeEdge).loader = s.loader ∧ (s.judgeEdge).tracker = s.tracker
    ∧ (s.judgeEdge).bus = s.bus ∧ (s.judgeEdge).gauge = s.gauge ∧ (s.judgeEdge).table = s.table
    ∧ (s.judgeEdge).engine = s.engine ∧ (s.judgeEdge).cradles = s.cradles ∧ (s.judgeEdge).tie = s.tie
    ∧ (s.judgeEdge).now = s.now ∧ (s.judgeEdge).pending = s.pending := by
  unfold State.judgeEdge State.placement State.double
  (repeat' split) <;> simp

@[simp] theorem State.takeHandover_frame (x : Slot) (c : CradleId) (n : Ticks) :
    (s.takeHandover x c n).pins = s.pins ∧ (s.takeHandover x c n).loader = s.loader ∧ (s.takeHandover x c n).tracker = s.tracker
    ∧ (s.takeHandover x c n).bus = s.bus ∧ (s.takeHandover x c n).gauge = s.gauge ∧ (s.takeHandover x c n).table = s.table
    ∧ (s.takeHandover x c n).engine = s.engine ∧ (s.takeHandover x c n).cradles = s.cradles ∧ (s.takeHandover x c n).tie = s.tie
    ∧ (s.takeHandover x c n).now = s.now ∧ (s.takeHandover x c n).pending = s.pending := by
  unfold State.takeHandover
  (repeat' split) <;> simp

@[simp] theorem State.haltReleaseUnit_frame (b : Bool) :
    (s.haltReleaseUnit b).pins = s.pins ∧ (s.haltReleaseUnit b).loader = s.loader ∧ (s.haltReleaseUnit b).tracker = s.tracker
    ∧ (s.haltReleaseUnit b).bus = s.bus ∧ (s.haltReleaseUnit b).gauge = s.gauge ∧ (s.haltReleaseUnit b).table = s.table
    ∧ (s.haltReleaseUnit b).engine = s.engine ∧ (s.haltReleaseUnit b).cradles = s.cradles ∧ (s.haltReleaseUnit b).tie = s.tie
    ∧ (s.haltReleaseUnit b).status = s.status ∧ (s.haltReleaseUnit b).now = s.now ∧ (s.haltReleaseUnit b).pending = s.pending := by
  unfold State.haltReleaseUnit
  (repeat' split) <;> simp

/-! ### The tie port -/

@[simp] theorem State.startTie_frame (c : CradleId) :
    (s.startTie c).pins = s.pins ∧ (s.startTie c).loader = s.loader ∧ (s.startTie c).tracker = s.tracker
    ∧ (s.startTie c).bus = s.bus ∧ (s.startTie c).gauge = s.gauge ∧ (s.startTie c).table = s.table
    ∧ (s.startTie c).engine = s.engine ∧ (s.startTie c).release = s.release ∧ (s.startTie c).status = s.status
    ∧ (s.startTie c).handed = s.handed ∧ (s.startTie c).now = s.now ∧ (s.startTie c).pending = s.pending := by
  unfold State.startTie
  (repeat' split) <;> simp

@[simp] theorem State.judgeTieStart_frame :
    (s.judgeTieStart).pins = s.pins ∧ (s.judgeTieStart).loader = s.loader ∧ (s.judgeTieStart).tracker = s.tracker
    ∧ (s.judgeTieStart).bus = s.bus ∧ (s.judgeTieStart).gauge = s.gauge ∧ (s.judgeTieStart).table = s.table
    ∧ (s.judgeTieStart).engine = s.engine ∧ (s.judgeTieStart).release = s.release ∧ (s.judgeTieStart).status = s.status
    ∧ (s.judgeTieStart).handed = s.handed ∧ (s.judgeTieStart).now = s.now ∧ (s.judgeTieStart).pending = s.pending := by
  unfold State.judgeTieStart
  (repeat' split) <;> simp

@[simp] theorem State.endAbort_frame :
    (s.endAbort).pins = s.pins ∧ (s.endAbort).loader = s.loader ∧ (s.endAbort).tracker = s.tracker
    ∧ (s.endAbort).bus = s.bus ∧ (s.endAbort).gauge = s.gauge ∧ (s.endAbort).table = s.table
    ∧ (s.endAbort).engine = s.engine ∧ (s.endAbort).cradles = s.cradles ∧ (s.endAbort).release = s.release
    ∧ (s.endAbort).status = s.status ∧ (s.endAbort).handed = s.handed ∧ (s.endAbort).now = s.now
    ∧ (s.endAbort).pending = s.pending := by
  unfold State.endAbort
  (repeat' split) <;> simp

@[simp] theorem State.endTie_frame (r : TieCode) :
    (s.endTie r).pins = s.pins ∧ (s.endTie r).loader = s.loader ∧ (s.endTie r).tracker = s.tracker
    ∧ (s.endTie r).bus = s.bus ∧ (s.endTie r).gauge = s.gauge ∧ (s.endTie r).table = s.table
    ∧ (s.endTie r).engine = s.engine ∧ (s.endTie r).release = s.release ∧ (s.endTie r).now = s.now
    ∧ (s.endTie r).pending = s.pending := by
  unfold State.endTie
  (repeat' split) <;> simp

@[simp] theorem State.takeStatusWord_frame (w : Word16) :
    (s.takeStatusWord w).pins = s.pins ∧ (s.takeStatusWord w).loader = s.loader ∧ (s.takeStatusWord w).tracker = s.tracker
    ∧ (s.takeStatusWord w).bus = s.bus ∧ (s.takeStatusWord w).gauge = s.gauge ∧ (s.takeStatusWord w).table = s.table
    ∧ (s.takeStatusWord w).engine = s.engine ∧ (s.takeStatusWord w).release = s.release ∧ (s.takeStatusWord w).now = s.now
    ∧ (s.takeStatusWord w).pending = s.pending := by
  unfold State.takeStatusWord
  (repeat' split) <;> simp

/-! ### The gauge unit -/

@[simp] theorem State.issueStem_frame (x : Slot) (cls n : Nat) (r : RejectReason) :
    (s.issueStem x cls n r).pins = s.pins ∧ (s.issueStem x cls n r).loader = s.loader ∧ (s.issueStem x cls n r).tracker = s.tracker
    ∧ (s.issueStem x cls n r).table = s.table ∧ (s.issueStem x cls n r).engine = s.engine ∧ (s.issueStem x cls n r).cradles = s.cradles
    ∧ (s.issueStem x cls n r).release = s.release ∧ (s.issueStem x cls n r).tie = s.tie ∧ (s.issueStem x cls n r).now = s.now
    ∧ (s.issueStem x cls n r).pending = s.pending := by
  unfold State.issueStem State.bumpSome
  (repeat' split) <;> simp

@[simp] theorem State.issue_frame (x : Slot) (e : Evaluation) :
    (s.issue x e).pins = s.pins ∧ (s.issue x e).loader = s.loader ∧ (s.issue x e).tracker = s.tracker
    ∧ (s.issue x e).table = s.table ∧ (s.issue x e).engine = s.engine ∧ (s.issue x e).cradles = s.cradles
    ∧ (s.issue x e).release = s.release ∧ (s.issue x e).tie = s.tie ∧ (s.issue x e).now = s.now
    ∧ (s.issue x e).pending = s.pending := by
  unfold State.issue
  (repeat' split) <;> simp

@[simp] theorem State.takePress_frame :
    (s.takePress).pins = s.pins ∧ (s.takePress).loader = s.loader ∧ (s.takePress).tracker = s.tracker
    ∧ (s.takePress).table = s.table ∧ (s.takePress).engine = s.engine ∧ (s.takePress).cradles = s.cradles
    ∧ (s.takePress).release = s.release ∧ (s.takePress).tie = s.tie ∧ (s.takePress).now = s.now
    ∧ (s.takePress).pending = s.pending := by
  unfold State.takePress State.advanceLot
  (repeat' split) <;> simp

@[simp] theorem State.takePendingPress_frame :
    (s.takePendingPress).pins = s.pins ∧ (s.takePendingPress).loader = s.loader ∧ (s.takePendingPress).tracker = s.tracker
    ∧ (s.takePendingPress).table = s.table ∧ (s.takePendingPress).engine = s.engine ∧ (s.takePendingPress).cradles = s.cradles
    ∧ (s.takePendingPress).release = s.release ∧ (s.takePendingPress).tie = s.tie ∧ (s.takePendingPress).now = s.now
    ∧ (s.takePendingPress).pending = s.pending := by
  unfold State.takePendingPress
  (repeat' split) <;> simp

@[simp] theorem State.noteResult_frame (r : ScanResult) :
    (s.noteResult r).pins = s.pins ∧ (s.noteResult r).loader = s.loader ∧ (s.noteResult r).tracker = s.tracker
    ∧ (s.noteResult r).bus = s.bus ∧ (s.noteResult r).table = s.table ∧ (s.noteResult r).engine = s.engine
    ∧ (s.noteResult r).cradles = s.cradles ∧ (s.noteResult r).release = s.release ∧ (s.noteResult r).tie = s.tie
    ∧ (s.noteResult r).handed = s.handed ∧ (s.noteResult r).now = s.now ∧ (s.noteResult r).pending = s.pending := by
  unfold State.noteResult
  (repeat' split) <;> simp

@[simp] theorem State.closeMeasure_frame (w : MeasureWindow) :
    (s.closeMeasure w).pins = s.pins ∧ (s.closeMeasure w).loader = s.loader ∧ (s.closeMeasure w).tracker = s.tracker
    ∧ (s.closeMeasure w).table = s.table ∧ (s.closeMeasure w).engine = s.engine ∧ (s.closeMeasure w).cradles = s.cradles
    ∧ (s.closeMeasure w).release = s.release ∧ (s.closeMeasure w).tie = s.tie ∧ (s.closeMeasure w).now = s.now
    ∧ (s.closeMeasure w).pending = s.pending := by
  unfold State.closeMeasure
  (repeat' split) <;> simp

@[simp] theorem State.closeIfFull_frame :
    (s.closeIfFull).pins = s.pins ∧ (s.closeIfFull).loader = s.loader ∧ (s.closeIfFull).tracker = s.tracker
    ∧ (s.closeIfFull).table = s.table ∧ (s.closeIfFull).engine = s.engine ∧ (s.closeIfFull).cradles = s.cradles
    ∧ (s.closeIfFull).release = s.release ∧ (s.closeIfFull).tie = s.tie ∧ (s.closeIfFull).now = s.now
    ∧ (s.closeIfFull).pending = s.pending := by
  unfold State.closeIfFull
  (repeat' split) <;> simp

@[simp] theorem State.writeResult_frame (n : Nat) (r : ScanResult) :
    (s.writeResult n r).pins = s.pins ∧ (s.writeResult n r).loader = s.loader ∧ (s.writeResult n r).tracker = s.tracker
    ∧ (s.writeResult n r).table = s.table ∧ (s.writeResult n r).engine = s.engine ∧ (s.writeResult n r).cradles = s.cradles
    ∧ (s.writeResult n r).release = s.release ∧ (s.writeResult n r).tie = s.tie ∧ (s.writeResult n r).now = s.now
    ∧ (s.writeResult n r).pending = s.pending := by
  cases hw : (s.noteResult r).gauge.window <;> simp [State.writeResult, hw]

@[simp] theorem State.takeScan_frame (b : Bool) (w : MeasureWindow) :
    (s.takeScan b w).pins = s.pins ∧ (s.takeScan b w).loader = s.loader ∧ (s.takeScan b w).tracker = s.tracker
    ∧ (s.takeScan b w).table = s.table ∧ (s.takeScan b w).engine = s.engine ∧ (s.takeScan b w).cradles = s.cradles
    ∧ (s.takeScan b w).release = s.release ∧ (s.takeScan b w).tie = s.tie ∧ (s.takeScan b w).now = s.now
    ∧ (s.takeScan b w).pending = s.pending := by
  unfold State.takeScan State.advanceScan
  (repeat' split) <;> simp

@[simp] theorem State.endScan_frame (p : Option Nat) (r : ScanResult) :
    (s.endScan p r).pins = s.pins ∧ (s.endScan p r).loader = s.loader ∧ (s.endScan p r).tracker = s.tracker
    ∧ (s.endScan p r).table = s.table ∧ (s.endScan p r).engine = s.engine ∧ (s.endScan p r).cradles = s.cradles
    ∧ (s.endScan p r).release = s.release ∧ (s.endScan p r).tie = s.tie ∧ (s.endScan p r).now = s.now
    ∧ (s.endScan p r).pending = s.pending := by
  unfold State.endScan
  (repeat' split) <;> simp

@[simp] theorem State.runOut_frame (c : Option Nat) :
    (s.runOut c).pins = s.pins ∧ (s.runOut c).loader = s.loader ∧ (s.runOut c).tracker = s.tracker
    ∧ (s.runOut c).bus = s.bus ∧ (s.runOut c).table = s.table ∧ (s.runOut c).engine = s.engine
    ∧ (s.runOut c).cradles = s.cradles ∧ (s.runOut c).release = s.release ∧ (s.runOut c).tie = s.tie
    ∧ (s.runOut c).handed = s.handed ∧ (s.runOut c).now = s.now ∧ (s.runOut c).pending = s.pending := by
  unfold State.runOut
  (repeat' split) <;> simp

@[simp] theorem State.watchFresh_frame (x : Slot) (c : Nat) :
    (s.watchFresh x c).pins = s.pins ∧ (s.watchFresh x c).loader = s.loader ∧ (s.watchFresh x c).tracker = s.tracker
    ∧ (s.watchFresh x c).bus = s.bus ∧ (s.watchFresh x c).table = s.table ∧ (s.watchFresh x c).engine = s.engine
    ∧ (s.watchFresh x c).cradles = s.cradles ∧ (s.watchFresh x c).release = s.release ∧ (s.watchFresh x c).tie = s.tie
    ∧ (s.watchFresh x c).handed = s.handed ∧ (s.watchFresh x c).now = s.now ∧ (s.watchFresh x c).pending = s.pending := by
  unfold State.watchFresh State.joinWatch
  (repeat' split) <;> simp

@[simp] theorem State.watchYield_frame (x : Slot) :
    (s.watchYield x).pins = s.pins ∧ (s.watchYield x).loader = s.loader ∧ (s.watchYield x).tracker = s.tracker
    ∧ (s.watchYield x).bus = s.bus ∧ (s.watchYield x).table = s.table ∧ (s.watchYield x).engine = s.engine
    ∧ (s.watchYield x).cradles = s.cradles ∧ (s.watchYield x).release = s.release ∧ (s.watchYield x).tie = s.tie
    ∧ (s.watchYield x).handed = s.handed ∧ (s.watchYield x).now = s.now ∧ (s.watchYield x).pending = s.pending := by
  unfold State.watchYield State.joinWatch
  (repeat' split) <;> simp

@[simp] theorem State.pressLot_frame :
    (s.pressLot).pins = s.pins ∧ (s.pressLot).loader = s.loader ∧ (s.pressLot).tracker = s.tracker
    ∧ (s.pressLot).table = s.table ∧ (s.pressLot).engine = s.engine ∧ (s.pressLot).cradles = s.cradles
    ∧ (s.pressLot).release = s.release ∧ (s.pressLot).tie = s.tie ∧ (s.pressLot).now = s.now
    ∧ (s.pressLot).pending = s.pending := by
  unfold State.pressLot
  (repeat' split) <;> simp

@[simp] theorem State.haltGaugeUnit_frame :
    (s.haltGaugeUnit).pins = s.pins ∧ (s.haltGaugeUnit).loader = s.loader ∧ (s.haltGaugeUnit).tracker = s.tracker
    ∧ (s.haltGaugeUnit).bus = s.bus ∧ (s.haltGaugeUnit).table = s.table ∧ (s.haltGaugeUnit).engine = s.engine
    ∧ (s.haltGaugeUnit).cradles = s.cradles ∧ (s.haltGaugeUnit).release = s.release ∧ (s.haltGaugeUnit).tie = s.tie
    ∧ (s.haltGaugeUnit).status = s.status ∧ (s.haltGaugeUnit).handed = s.handed ∧ (s.haltGaugeUnit).now = s.now
    ∧ (s.haltGaugeUnit).pending = s.pending := by
  unfold State.haltGaugeUnit
  (repeat' split) <;> simp

/-! ### The tracker -/

@[simp] theorem State.countGlitch_frame (i : FilteredInput) :
    (s.countGlitch i).pins = s.pins ∧ (s.countGlitch i).loader = s.loader ∧ (s.countGlitch i).tracker = s.tracker
    ∧ (s.countGlitch i).bus = s.bus ∧ (s.countGlitch i).gauge = s.gauge ∧ (s.countGlitch i).table = s.table
    ∧ (s.countGlitch i).engine = s.engine ∧ (s.countGlitch i).cradles = s.cradles ∧ (s.countGlitch i).release = s.release
    ∧ (s.countGlitch i).tie = s.tie ∧ (s.countGlitch i).handed = s.handed ∧ (s.countGlitch i).now = s.now
    ∧ (s.countGlitch i).pending = s.pending := by
  unfold State.countGlitch
  (repeat' split) <;> simp

@[simp] theorem State.countNumbering_frame (h : Bool) :
    (s.countNumbering h).pins = s.pins ∧ (s.countNumbering h).loader = s.loader ∧ (s.countNumbering h).tracker = s.tracker
    ∧ (s.countNumbering h).bus = s.bus ∧ (s.countNumbering h).gauge = s.gauge ∧ (s.countNumbering h).table = s.table
    ∧ (s.countNumbering h).engine = s.engine ∧ (s.countNumbering h).cradles = s.cradles ∧ (s.countNumbering h).release = s.release
    ∧ (s.countNumbering h).tie = s.tie ∧ (s.countNumbering h).handed = s.handed ∧ (s.countNumbering h).now = s.now
    ∧ (s.countNumbering h).pending = s.pending := by
  unfold State.countNumbering
  (repeat' split) <;> simp

@[simp] theorem State.timePulse_frame (h : Bool) :
    (s.timePulse h).pins = s.pins ∧ (s.timePulse h).loader = s.loader ∧ (s.timePulse h).bus = s.bus
    ∧ (s.timePulse h).gauge = s.gauge ∧ (s.timePulse h).table = s.table ∧ (s.timePulse h).engine = s.engine
    ∧ (s.timePulse h).cradles = s.cradles ∧ (s.timePulse h).release = s.release ∧ (s.timePulse h).tie = s.tie
    ∧ (s.timePulse h).status = s.status ∧ (s.timePulse h).handed = s.handed ∧ (s.timePulse h).now = s.now
    ∧ (s.timePulse h).pending = s.pending := by
  unfold State.timePulse
  (repeat' split) <;> simp

@[simp] theorem State.countHome_frame (h : Bool) :
    (s.countHome h).pins = s.pins ∧ (s.countHome h).loader = s.loader ∧ (s.countHome h).bus = s.bus
    ∧ (s.countHome h).gauge = s.gauge ∧ (s.countHome h).table = s.table ∧ (s.countHome h).engine = s.engine
    ∧ (s.countHome h).cradles = s.cradles ∧ (s.countHome h).release = s.release ∧ (s.countHome h).tie = s.tie
    ∧ (s.countHome h).handed = s.handed ∧ (s.countHome h).now = s.now ∧ (s.countHome h).pending = s.pending := by
  unfold State.countHome
  (repeat' split) <;> simp

@[simp] theorem State.handArrival_frame (x : Option Slot) (b : Bool) :
    (s.handArrival x b).pins = s.pins ∧ (s.handArrival x b).loader = s.loader ∧ (s.handArrival x b).tracker = s.tracker
    ∧ (s.handArrival x b).bus = s.bus ∧ (s.handArrival x b).gauge = s.gauge ∧ (s.handArrival x b).table = s.table
    ∧ (s.handArrival x b).engine = s.engine ∧ (s.handArrival x b).cradles = s.cradles ∧ (s.handArrival x b).release = s.release
    ∧ (s.handArrival x b).tie = s.tie ∧ (s.handArrival x b).status = s.status ∧ (s.handArrival x b).now = s.now
    ∧ (s.handArrival x b).pending = s.pending := by
  unfold State.handArrival
  (repeat' split) <;> simp

@[simp] theorem State.acceptPulse_frame (h : Bool) :
    (s.acceptPulse h).pins = s.pins ∧ (s.acceptPulse h).loader = s.loader ∧ (s.acceptPulse h).bus = s.bus
    ∧ (s.acceptPulse h).gauge = s.gauge ∧ (s.acceptPulse h).table = s.table ∧ (s.acceptPulse h).engine = s.engine
    ∧ (s.acceptPulse h).cradles = s.cradles ∧ (s.acceptPulse h).release = s.release ∧ (s.acceptPulse h).tie = s.tie
    ∧ (s.acceptPulse h).now = s.now ∧ (s.acceptPulse h).pending = s.pending := by
  unfold State.acceptPulse State.placePulse
  (repeat' split) <;> simp

@[simp] theorem State.judgePulse_frame (h : Bool) :
    (s.judgePulse h).pins = s.pins ∧ (s.judgePulse h).loader = s.loader ∧ (s.judgePulse h).bus = s.bus
    ∧ (s.judgePulse h).gauge = s.gauge ∧ (s.judgePulse h).table = s.table ∧ (s.judgePulse h).engine = s.engine
    ∧ (s.judgePulse h).cradles = s.cradles ∧ (s.judgePulse h).release = s.release ∧ (s.judgePulse h).tie = s.tie
    ∧ (s.judgePulse h).now = s.now ∧ (s.judgePulse h).pending = s.pending := by
  unfold State.judgePulse
  (repeat' split) <;> simp

end Sys2Proof.Machine
end

