-- ==== Sys2Proof/Laws/Ops.lean ====
section
/-! SUPPORT. What each shared operation can do, said once: the answers of an offer and of a removal request,
a withdrawal's ways, the outcomes of a cradle's judgment, insertion into the ordered lists, the levels of
characters, the outputs, distances and counters. -/

namespace Sys2Proof.Machine

variable (s : State)

/-! ### Folds over a list of entries -/

theorem foldl_keeps {α β : Type} (inv : β → Prop) (f : β → α → β) (h : ∀ b a, inv b → inv (f b a)) :
    ∀ (l : List α) (b : β), inv b → inv (l.foldl f b)
  | [], _, hb => hb
  | a :: l, b, hb => foldl_keeps inv f h l (f b a) (h b a hb)

/-! ### Ordered lists -/

theorem insertByValue_perm (q : QueuedFrame) (l : List QueuedFrame) : (insertByValue q l).Perm (q :: l) := by
  induction l with
  | nil => exact .refl _
  | cons x l ih =>
    unfold insertByValue
    split
    · exact .refl _
    · exact (ih.cons x).trans (.swap q x l)

theorem insertByValue_length (q : QueuedFrame) (l : List QueuedFrame) :
    (insertByValue q l).length = l.length + 1 :=
  (insertByValue_perm q l).length_eq

theorem insertByKey_perm {α : Type} (key : α → Nat) (x : α) (l : List α) :
    (insertByKey key x l).Perm (x :: l) := by
  induction l with
  | nil => exact .refl _
  | cons y l ih =>
    unfold insertByKey
    split
    · exact .refl _
    · exact (ih.cons y).trans (.swap x y l)

theorem insertByKeyFirst_perm {α : Type} (key : α → Nat) (x : α) (l : List α) :
    (sortByKey.insertByKeyFirst key x l).Perm (x :: l) := by
  induction l with
  | nil => exact .refl _
  | cons y l ih =>
    unfold sortByKey.insertByKeyFirst
    split
    · exact .refl _
    · exact (ih.cons y).trans (.swap x y l)

theorem sortByKey_perm {α : Type} (key : α → Nat) (l : List α) : (sortByKey key l).Perm l := by
  induction l with
  | nil => exact .refl _
  | cons y l ih => exact (insertByKeyFirst_perm key y _).trans (ih.cons y)

theorem leastBy_isSome {α : Type} (key : α → Nat) (x : α) (l : List α) : (leastBy key (x :: l)).isSome = true := by
  unfold leastBy
  (repeat' split) <;> rfl

/-- The element found has the least key, and stands first among those of that key. -/
theorem leastBy_spec {α : Type} (key : α → Nat) : ∀ (l : List α) (x : α), leastBy key l = some x →
    ∃ before after, l = before ++ x :: after ∧ (∀ y ∈ before, key x < key y) ∧ (∀ y ∈ after, key x ≤ key y)
  | [], _, h => by simp [leastBy] at h
  | y :: rest, x, h => by
    unfold leastBy at h
    split at h
    · next hn =>
      cases rest with
      | nil => cases h; exact ⟨[], [], rfl, by simp, by simp⟩
      | cons z rest => have hs := leastBy_isSome key z rest; simp [hn] at hs
    · next z hz =>
      obtain ⟨before, after, rfl, hb, ha⟩ := leastBy_spec key rest z hz
      split_ifs at h with hk <;> cases h
      · exact ⟨y :: before, after, rfl, by simpa using ⟨hk, hb⟩, ha⟩
      · refine ⟨[], _, rfl, by simp, fun w hw => ?_⟩
        rcases List.mem_append.1 hw with hw | hw
        · exact Nat.le_trans (Nat.le_of_not_lt hk) (Nat.le_of_lt (hb w hw))
        · rcases List.mem_cons.1 hw with rfl | hw
          · exact Nat.le_of_not_lt hk
          · exact Nat.le_trans (Nat.le_of_not_lt hk) (ha w hw)

/-! ### The CRC -/

/-- R24: one bit shifts the register, and the bit taken in with the top one enters at the terms 1, x^5 and x^12. -/
theorem crcBit_getLsbD (register : Word16) (bit : Bool) (i : Nat) (h : i < 16) :
    (crcBit register bit).getLsbD i = ((decide (1 ≤ i) && register.getLsbD (i - 1))
      ^^ ((register.getLsbD 15 ^^ bit) && decide (i = 0 ∨ i = 5 ∨ i = 12))) := by
  have hm : register.msb = register.getLsbD 15 := by simp [BitVec.msb_eq_getLsbD_last]
  unfold crcBit
  rw [hm]
  cases register.getLsbD 15 <;> cases bit <;> interval_cases i <;> simp

/-! ### The transmit queue -/

/-- R31: the four answers of an offer, each with its condition and what it does. -/
theorem State.offer_cases (f : Frame) :
    (s.offer f = (.refused, s))
    ∨ (s.offersAccepted ∧ s.bus.queue.length < queueCapacity ∧ s.offer f = (.joined, s.enqueue f)
      ∧ ∀ slot, claimSlot f.body = some slot → claimQueued s.bus.queue slot = false)
    ∨ (∃ slot, s.offersAccepted ∧ queueCapacity ≤ s.bus.queue.length ∧ claimSlot f.body = none
      ∧ lastEvictable s.bus.queue = some slot ∧ s.offer f = (.joined, s.evictFor slot f))
    ∨ (s.offersAccepted ∧ queueCapacity ≤ s.bus.queue.length ∧ claimSlot f.body = none
      ∧ lastEvictable s.bus.queue = none ∧ s.offer f = (.dropped, s.bump .framesDropped)) := by
  by_cases ha : s.offersAccepted
  · by_cases hl : s.bus.queue.length < queueCapacity
    · cases hc : claimSlot f.body with
      | none => simp [State.offer, ha, hl, hc]
      | some slot => cases hq : claimQueued s.bus.queue slot <;> simp [State.offer, ha, hl, hc, hq]
    · have hle := Nat.le_of_not_lt hl
      cases hc : claimSlot f.body with
      | none => cases he : lastEvictable s.bus.queue <;> simp [State.offer, ha, hl, hle, hc, he]
      | some slot => cases hq : claimQueued s.bus.queue slot <;> simp [State.offer, ha, hl, hc, hq]
  · left; simp [State.offer, ha]

/-- R30, R33: a removal request takes the frame from the queue, or holds the request for the contention's end, or
leaves the queue and a request held earlier as they are. -/
theorem State.requestRemoval_queue (body : FrameBody) :
    ((s.requestRemoval body).1 = .removed
      ∧ (s.requestRemoval body).2.bus.queue = s.bus.queue.eraseP (fun q => sameFrame body q.frame.body)
      ∧ (s.requestRemoval body).2.bus.removalHeld = s.bus.removalHeld)
    ∨ ((s.requestRemoval body).1 = .deferred
      ∧ (s.requestRemoval body).2.bus.queue = s.bus.queue.map (holdRemoval body)
      ∧ (s.requestRemoval body).2.bus.removalHeld = some body)
    ∨ (((s.requestRemoval body).1 = .inTransmission ∨ (s.requestRemoval body).1 = .notQueued)
      ∧ (s.requestRemoval body).2.bus.queue = s.bus.queue
      ∧ (s.requestRemoval body).2.bus.removalHeld = s.bus.removalHeld) := by
  cases h : s.bus.removalAnswerNow body <;> simp [State.requestRemoval, LineBus.takeRemoval, h]

/-- Every removal request leaves its answer, with the frame it names (R33). -/
@[simp] theorem State.requestRemoval_removalAnswer (body : FrameBody) :
    (s.requestRemoval body).2.bus.removalAnswer = some ⟨body, s.bus.removalAnswerNow body⟩ := rfl

/-- A request held back is answered for the frame it names, whatever has been answered since (R30, R33). -/
theorem State.answerHeld_some (answer : RemovalAnswer) (body : FrameBody) (h : s.bus.removalHeld = some body) :
    s.answerHeld answer = { s with
      bus := { s.bus with removalHeld := none, removalAnswer := some ⟨body, answer⟩ } } := by
  simp [State.answerHeld, h]

/-- With no request held back there is nothing to answer. -/
theorem State.answerHeld_none (answer : RemovalAnswer) (h : s.bus.removalHeld = none) : s.answerHeld answer = s := by
  simp [State.answerHeld, h]

/-- A discard is counted, but for the own frame that the readback has spoiled (R23). -/
theorem State.countDiscard_cases :
    (s.bus.state = .receiving ∧ s.bus.ownSpoiled = true ∧ s.countDiscard = s)
    ∨ ((s.bus.state ≠ .receiving ∨ s.bus.ownSpoiled = false) ∧ s.countDiscard = s.bump .receiveErrors) := by
  by_cases h : s.bus.state = .receiving ∧ s.bus.ownSpoiled = true
  · exact .inl ⟨h.1, h.2, by simp [State.countDiscard, h]⟩
  · refine .inr ⟨?_, by simp only [State.countDiscard, h, if_false]⟩
    by_cases hr : s.bus.state = .receiving
    · exact .inr (by simpa [hr] using h)
    · exact .inl hr

/-! ### Withdrawals (R74) -/

@[simp] theorem State.answerFor_removed (slot : Slot) : s.answerFor slot .removed = .removed := by
  simp [State.answerFor]
@[simp] theorem State.answerFor_deferred (slot : Slot) : s.answerFor slot .deferred = .deferred := by
  simp [State.answerFor]
@[simp] theorem State.answerFor_inTransmission (slot : Slot) : s.answerFor slot .inTransmission = .inTransmission := by
  simp [State.answerFor]

/-- A frame no longer queued counts as in transmission while its end is still to be taken (log 28). -/
@[simp] theorem State.answerFor_notQueued (slot : Slot) :
    s.answerFor slot .notQueued = if s.claimEnding slot = true then .inTransmission else .notQueued := by
  simp [State.answerFor]

/-- A withdrawal that does not find its entry TENTATIVE has no effect. -/
theorem State.withdraw_other (slot : Slot) (w : Withdrawal)
    (h : ∀ e, s.entry? slot = some e → ∀ c y a, e.state ≠ .tentative c y a) : s.withdraw slot w = s := by
  unfold State.withdraw
  split
  · rfl
  · next e he =>
    have hs := h e he
    split <;> first | rfl | exact absurd (by assumption) (hs _ _ _)

/-- The ways of a withdrawal that finds its entry TENTATIVE: carried out with a target, or waiting in the entry. -/
theorem State.withdraw_cases (slot : Slot) (w : Withdrawal) {e : FlightEntry} {c : CradleId}
    {y : Option YieldReason} {a : Option Withdrawal} (he : s.entry? slot = some e)
    (hs : e.state = .tentative c y a) :
    (∃ target, s.withdraw slot w = (s.requestRemoval (.claim slot c)).2.withdrawNow slot c target)
    ∨ (w.target ≠ .removal ∧ ∃ y' a', s.withdraw slot w
      = (s.requestRemoval (.claim slot c)).2.setEntry slot (.tentative c y' a')) := by
  unfold State.withdraw
  rw [he]
  dsimp only
  rw [hs]
  dsimp only
  split_ifs with hw
  · exact .inl ⟨_, rfl⟩
  · split
    · exact .inl ⟨_, rfl⟩
    · exact .inl ⟨_, rfl⟩
    · exact .inr ⟨hw, _, _, rfl⟩
    · exact .inr ⟨hw, _, _, rfl⟩

/-- The ways of the queue's held answer, once the frame has left the queue: a waiting withdrawal is carried out with
its own target, or nothing waits. -/
theorem State.answerRemoved_cases (slot : Slot) :
    s.answerRemoved slot = s
    ∨ ∃ e c y w, s.entry? slot = some e ∧ e.state = .tentative c y (some w)
      ∧ s.answerRemoved slot = s.withdrawNow slot c w.target := by
  unfold State.answerRemoved
  split
  · exact .inl rfl
  · next e he =>
    split <;> first | exact .inl rfl | exact .inr ⟨e, _, _, _, he, by assumption, rfl⟩

/-! ### Levels on the line (R18) -/

@[simp] theorem bitsOf_length (byte : Byte) : (bitsOf byte).length = 8 := rfl
@[simp] theorem characterLevels_length (char : Byte) : (characterLevels char).length = 10 := rfl

/-- Level `k` of character `i` stands at bit time 10 i + k. -/
theorem levels_at (k : Nat) (hk : k < 10) : ∀ (chars : List Byte) (i : Nat),
    (chars.flatMap characterLevels)[10 * i + k]? = chars[i]?.bind (fun c => (characterLevels c)[k]?)
  | [], i => by simp
  | c :: chars, 0 => by simp [List.flatMap_cons, List.getElem?_append, hk]
  | c :: chars, i + 1 => by
    have h : 10 * (i + 1) + k - 10 = 10 * i + k := by omega
    have h' : ¬ 10 * (i + 1) + k < 10 := by omega
    simp [List.flatMap_cons, List.getElem?_append, h, h', levels_at k hk chars i]

theorem levels_length (chars : List Byte) : (chars.flatMap characterLevels).length = 10 * chars.length := by
  induction chars with
  | nil => rfl
  | cons c chars ih => simp [List.flatMap_cons, ih]; omega

/-! ### Outputs (R177) -/

/-- The outputs stand at the safe levels of R177 in every state. -/
theorem State.safeOutputs_holds : s.safeOutputs := by
  refine ⟨fun h => ?_, fun h1 h2 n => ?_, fun h1 h2 => ?_, fun h missed n => ?_⟩
  · simp [State.relOutput, State.flapOutput, State.scanRequestOutput, State.scanClockRuns, State.dropActive,
      State.gaugeActive, h]
  · simp only [State.lineLevel]
    split <;> simp [State.drivesLine, State.offersAccepted, h1, h2]
  · simp [State.tieClockRuns, State.tieRecordOut, State.dropStarted, h1, h2]
  · simp [State.memoryBusOut, State.memoryClockRuns, h]

/-! ### Cradles -/

/-- R118: the outcomes of a judgment. -/
theorem State.judgeCradle_cases (c : CradleId) :
    s.judgeCradle c = s.enterEmpty c ∨ s.judgeCradle c = s.enterReady c ∨ s.judgeCradle c = s
    ∨ s.judgeCradle c = s.setCradle c { s.cradle c with state := .sealed, pending := .none }
    ∨ s.judgeCradle c = s.leaveOpen c := by
  unfold State.judgeCradle
  dsimp only
  split_ifs <;> simp

/-- R120: the record after the entry to EMPTY. -/
theorem State.enterEmpty_cradle (c : CradleId) : (s.enterEmpty c).cradle c = Cradle.emptyRecord := by
  cases c <;> rfl

theorem State.enterEmpty_other (c : CradleId) :
    (s.enterEmpty c).cradle (otherCradle c) = s.cradle (otherCradle c) := by
  cases c <;> rfl

/-! ### Distances and counters -/

theorem forwardDistance_lt (chain : Nat) (h : 0 < chain) (x y : Slot) : forwardDistance chain x y < chain :=
  Nat.mod_lt _ h

theorem countUp_le (n : Word16) : n ≤ countUp n := by
  unfold countUp
  split
  · exact BitVec.le_refl _
  · next h =>
    have h1 : n.toNat ≠ 65535 := fun e => h (BitVec.eq_of_toNat_eq e)
    have h2 := n.isLt
    rw [BitVec.le_def, BitVec.toNat_add]
    simp only [BitVec.toNat_ofNat]
    omega

/-- A count moves no other counter and never falls. -/
theorem State.bump_counter_le (n m : CounterName) : s.counter m ≤ (s.bump n).counter m := by
  by_cases h : m = n
  · subst h; rw [State.bump_counter_self]; exact countUp_le _
  · rw [State.bump_counter_other _ h]; exact BitVec.le_refl _

end Sys2Proof.Machine
end

