-- ==== Sys2Proof/Tests/Slice0.lean ====
section
/-! SUPPORT. The model's own tests: the well-formedness checks, the spec's worked examples, and for each
statement with hypotheses a witness that they can be met. -/

namespace Sys2Proof.Tests

-- one thread: the tests are many and each is small
set_option Elab.async false

open Sys2Proof Sys2Proof.Machine

/-! ### Two stations -/

/-- A drop record with the parameters of the worked pass of 05 and the worked widths of 07: L 300, Pmin 50 ms,
Pnom 225 ms, D 80, Hc 3, Sd 10, Gf 1, W 40 ms, Wmin 30 ms, Gr 2 ms, Fr 96; class 4 primary B 10, class 2
secondary B 8. The CRC was worked outside the model. -/
def dropBytes : List Byte :=
  [1, 0, 1, 44, 0, 50, 0, 225, 10, 5, 0, 0, 0, 0, 0, 0] ++ [0, 80, 3, 10, 1, 8, 0, 40, 40, 30, 2, 96, 20, 30, 50, 80]
    ++ [2, 4, 10, 3, 0, 2, 8, 2, 1] ++ List.replicate 85 0 ++ [198, 129]

/-- A gauge record with the parameters of the worked evaluations and scan times: N 160, p10 50, O10 2,350, K 5,
Vmin 3, T 3, Fs 40, Fd 32, bounds 400 to 800 mm. The CRC was worked outside the model. -/
def gaugeBytes : List Byte :=
  [1, 0, 1, 44, 0, 50, 0, 225, 10, 5] ++ List.replicate 54 0
    ++ [0, 160, 50, 9, 46, 5, 3, 3, 40, 32, 20, 8, 0, 200, 5, 1, 144, 1, 244, 2, 88, 2, 188, 3, 32]
    ++ List.replicate 37 0 ++ [193, 220]

/-- A drop station with id 20 in a mode, TRACKING at slot 100. -/
def dropIn (m : Mode) : State :=
  { State.reset with
    loader := ⟨m, some .drop, some 20#6, some (dropConfig dropBytes), 0, none, .inactive, false⟩
    tracker := ⟨.tracking, some 100, 22500, some 6000, true, 7, .released, .released⟩
    bus := { LineBus.reset with state := .receiving, gaugeId := some 1 }
    engine := ⟨false, .steady⟩
    cradles := { CradleManager.reset with clrA := .released, clrB := .released }
    status := { StatusPort.reset with ackFilter := .released, flash := some 9, flashLit := true } }

/-- A gauge station with id 1 in a mode, TRACKING at slot 100. -/
def gaugeIn (m : Mode) : State :=
  { State.reset with
    loader := ⟨m, some .gauge, some 1#6, some (gaugeConfig gaugeBytes), 0, none, .inactive, false⟩
    tracker := ⟨.tracking, some 100, 22500, some 6000, true, 7, .released, .stopped⟩
    bus := { LineBus.reset with state := .receiving }
    gauge := { GaugeUnit.reset with lotNumber := 6, lotFilter := .released }
    status := { StatusPort.reset with ackFilter := .released, flash := some 9, flashLit := true } }

/-- The next state a command answers. -/
def after (c : Instr) (s : State) : State :=
  match exec c s with
  | .next t => t
  | .fault _ => s
  | .refused _ => s

/-- A 16-frame queue of one frame. -/
def fullQueue (q : QueuedFrame) : List QueuedFrame := List.replicate 16 q

/-- A queued CLAIM, YIELD, STEM. -/
def queuedClaim (slot : Slot) : QueuedFrame := ⟨⟨30036, .claim slot .a⟩, some 3, 0, false, none⟩
def queuedYield (slot : Slot) : QueuedFrame := ⟨⟨40980, .yield slot .skip⟩, some 8, 7, false, none⟩
def queuedStem (slot : Slot) : QueuedFrame := ⟨⟨49153, .stem slot 4 750 6 .none⟩, some 8, 7, false, none⟩
def contended (q : QueuedFrame) : QueuedFrame := { q with contended := true }

/-- A cradle bound to class 4, lot 6. -/
def openCradle (st : CradleState) (placed won tentative : Nat) : Cradle :=
  { Cradle.emptyRecord with state := st, binding := some ⟨4, 6⟩, placed := placed, won := won, tentative := tentative }

def withQueue (l : List QueuedFrame) (s : State) : State := { s with bus := { s.bus with queue := l } }
def withLine (st : LineState) (s : State) : State := { s with bus := { s.bus with state := st } }
def withTable (l : List FlightEntry) (s : State) : State := { s with table := { s.table with entries := l } }
def withCradles (a b : Cradle) (s : State) : State := { s with cradles := { s.cradles with a := a, b := b } }
def withTieQueue (l : List CradleId) (s : State) : State := { s with cradles := { s.cradles with tieQueue := l } }

/-! ### Well-formedness: an ill-formed term for each check -/

theorem test_wf_slot : (Instr.carrierNotice 1022).wellFormed = true ∧ (Instr.carrierNotice 1023).wellFormed = false := by decide +kernel
theorem test_wf_nibble : (Instr.closeLot 15).wellFormed = true ∧ (Instr.closeLot 16).wellFormed = false := by decide +kernel
theorem test_wf_arrival : (Instr.releaseCarrierStep ⟨0, 262143, false⟩).wellFormed = true
    ∧ (Instr.releaseCarrierStep ⟨0, 262144, false⟩).wellFormed = false := by decide +kernel
theorem test_wf_record : (Instr.recordReadComplete dropBytes).wellFormed = true
    ∧ (Instr.recordReadComplete [1]).wellFormed = false := by decide +kernel
theorem test_wf_mode_notice : (Instr.modeNotice .tiePort true).wellFormed = true
    ∧ (Instr.modeNotice .lineBus true).wellFormed = false := by decide +kernel
theorem test_wf_frame_length : (Instr.frameHeard [0, 0, 0, 0, 0]).wellFormed = true
    ∧ (Instr.frameHeard [0, 0, 0, 0]).wellFormed = false := by decide +kernel
theorem test_wf_frame_fields : (Instr.removalRequest (.stem 9 4 2047 6 .none)).wellFormed = true
    ∧ (Instr.removalRequest (.stem 9 4 2048 6 .none)).wellFormed = false
    ∧ (Instr.removalRequest (.hello 256)).wellFormed = false := by decide +kernel
theorem test_wf_claim_outcome : (Instr.claimOutcome 9 .evicted).wellFormed = true
    ∧ (Instr.claimOutcome 9 .dropped).wellFormed = false := by decide +kernel
theorem test_wf_sender : (Instr.flightTableClaim 9 .a 63).wellFormed = true
    ∧ (Instr.flightTableClaim 9 .a 64).wellFormed = false := by decide +kernel
theorem test_wf_handover : (Instr.releaseHandover 9 .a 262143).wellFormed = true
    ∧ (Instr.releaseHandover 9 .a 262144).wellFormed = false := by decide +kernel

/-! ### Worked frames (11, section 11.1) and the CRC -/

/-- "0x20, 0x01, 0x01, 0x69, 0x4A". -/
theorem test_hello_frame : frameBytes (plainFrame 1 (.hello 1)) = [0x20#8, 0x01#8, 0x01#8, 0x69#8, 0x4A#8] := by decide +kernel

/-- The register after each character: 0xC592, 0x0BC8, 0x694A, and zero after the CRC. -/
theorem test_crc_registers : crcOf [0x20#8] = 0xC592#16 ∧ crcOf [0x20#8, 0x01#8] = 0x0BC8#16
    ∧ crcOf [0x20#8, 0x01#8, 0x01#8] = 0x694A#16
    ∧ crcOf [0x20#8, 0x01#8, 0x01#8, 0x69#8, 0x4A#8] = 0#16 := by decide +kernel

/-- The STEM of worked case a: 0xC0 0x01, then 0x19, 0x11, 0x77, 0x30, 0x00. -/
theorem test_stem_payload : bodyBytes (plainFrame 1 (.stem 100 4 750 6 .none))
    = [0xC0#8, 0x01#8, 0x19#8, 0x11#8, 0x77#8, 0x30#8, 0x00#8] := by decide +kernel

/-- Payloads written out from the bit strings of R183: CLAIM 5 into B, YIELD 5 MISS, LOT 6 to 130. -/
theorem test_other_payloads : payloadBytes (.claim 5 .b) = [0b00000001#8, 0b01100000#8]
    ∧ payloadBytes (.yield 5 .miss) = [0b00000001#8, 0b01100000#8]
    ∧ payloadBytes (.lot 6 130) = [0b01100010#8, 0b00001000#8] := by decide +kernel

theorem test_parse_hello : parseFrame [0x20#8, 0x01#8, 0x01#8, 0x69#8, 0x4A#8] = some ⟨0x2001, .hello 1⟩ := by decide +kernel
theorem test_parse_bad_crc : parseFrame [0x20#8, 0x01#8, 0x01#8, 0x69#8, 0x4B#8] = none := by decide +kernel

/-! ### Worked claim keys (05, section 5.5) -/

theorem test_claim_keys : claimValue ⟨4, 10, 3, false⟩ 7 12 = 0x754C ∧ claimValue ⟨4, 10, 3, false⟩ 9 20 = 0x7ED4
    ∧ claimValue ⟨4, 10, 3, false⟩ 0 7 = 0x6807 ∧ claimValue ⟨4, 10, 3, true⟩ 3 33 = 0x6261 := by decide +kernel

/-! ### Worked scan times (01) and widths (07) -/

theorem test_scan_times : ([0, 1, 2, 3, 4].map fun i => fractionTicks 22500 (40 + i * 32))
    = [3515, 6328, 9140, 11953, 14765] := by decide +kernel

/-- P 22,500: delay 8,437, width 4,000; P 6,000: delay 2,250, width clamped to 3,550; P 5,000: skipped. -/
theorem test_widths :
    (after (.releaseHandover 100 .a 22500) (dropIn .active)).release.delayed
      = some ⟨100, .a, 22500, 4000, .delay, false⟩
    ∧ (after (.releaseHandover 100 .a 22500) (dropIn .active)).release.delayTimer = some 8437
    ∧ (after (.releaseHandover 100 .a 6000) (dropIn .active)).release.delayed
      = some ⟨100, .a, 6000, 3550, .delay, false⟩
    ∧ (after (.releaseHandover 100 .a 5000) (dropIn .active)).release.delayed = none
    ∧ (after (.releaseHandover 100 .a 5000) (dropIn .active)).counter .skips = 1 := by decide +kernel

/-! ### Worked evaluations (03, section 3.4), cases a to h -/

def evaluated (l : List ScanResult) : Evaluation := evaluate (gaugeConfig gaugeBytes) l

theorem test_evaluation_a : evaluated [.stem 101, .stem 103, .clear, .stem 102, .stem 102] = .stem 4 750 .none := by decide +kernel
theorem test_evaluation_b : evaluated (List.replicate 5 (.stem 122)) = .stem 5 850 .none := by decide +kernel
theorem test_evaluation_c : evaluated [.stem 30, .stem 30, .stem 31, .stem 29, .stem 30] = .stem 0 390 .short := by decide +kernel
theorem test_evaluation_d : evaluated [.stem 101, .stem 106, .stem 102, .stem 104, .stem 103] = .stem 0 755 .unsteady := by
  decide +kernel
theorem test_evaluation_e : evaluated [.stem 101, .lost, .blocked, .clear, .stem 102] = .stem 0 0 .unmeasured := by decide +kernel
theorem test_evaluation_f : evaluated [.stem 140, scanResultOf 160 0x40AA#16, .stem 141, .stem 141, .stem 142]
    = .stem 5 945 .none := by decide +kernel
theorem test_evaluation_g : evaluated [.stem 90, .stem 91, .stem 91, .lost, .lost] = .stem 3 695 .none := by decide +kernel
theorem test_evaluation_h : evaluated (List.replicate 5 .clear) = .empty := by decide +kernel

/-! ### Start-up -/

/-- A record of 128 bytes is worked through the CRC in quarters. -/
theorem crcOf_quarters (l : List Byte) (h : l.length = 128) : crcOf l
    = ((l.drop 96).take 32).foldl crcByte (((l.drop 64).take 32).foldl crcByte
      (((l.drop 32).take 32).foldl crcByte (((l.drop 0).take 32).foldl crcByte 0xFFFF#16))) := by
  have e : l = (l.drop 0).take 32 ++ ((l.drop 32).take 32 ++ ((l.drop 64).take 32 ++ (l.drop 96).take 32)) := by
    apply List.ext_getElem?
    intro i
    simp only [List.getElem?_append, List.getElem?_take, List.getElem?_drop, List.length_take, List.length_drop, h]
    split_ifs <;> first | (congr 1; omega) | omega | (rw [List.getElem?_eq_none]; omega)
  unfold crcOf
  conv_lhs => rw [e]
  simp only [List.foldl_append]

theorem test_crc_drop_0 : ((dropBytes.drop 0).take 32).foldl crcByte 0xFFFF#16 = 0x4B93#16 := by decide +kernel
theorem test_crc_drop_1 : ((dropBytes.drop 32).take 32).foldl crcByte 0x4B93#16 = 0xBB03#16 := by decide +kernel
theorem test_crc_drop_2 : ((dropBytes.drop 64).take 32).foldl crcByte 0xBB03#16 = 0x9862#16 := by decide +kernel
theorem test_crc_drop_3 : ((dropBytes.drop 96).take 32).foldl crcByte 0x9862#16 = 0x0000#16 := by decide +kernel
theorem test_crc_gauge_0 : ((gaugeBytes.drop 0).take 32).foldl crcByte 0xFFFF#16 = 0x4E3C#16 := by decide +kernel
theorem test_crc_gauge_1 : ((gaugeBytes.drop 32).take 32).foldl crcByte 0x4E3C#16 = 0x8332#16 := by decide +kernel
theorem test_crc_gauge_2 : ((gaugeBytes.drop 64).take 32).foldl crcByte 0x8332#16 = 0x3C11#16 := by decide +kernel
theorem test_crc_gauge_3 : ((gaugeBytes.drop 96).take 32).foldl crcByte 0x3C11#16 = 0x0000#16 := by decide +kernel

theorem test_crc_drop : crcGood dropBytes = true := by
  rw [crcGood, crcOf_quarters _ (by decide +kernel), test_crc_drop_0, test_crc_drop_1, test_crc_drop_2, test_crc_drop_3]; rfl
theorem test_crc_gauge : crcGood gaugeBytes = true := by
  rw [crcGood, crcOf_quarters _ (by decide +kernel), test_crc_gauge_0, test_crc_gauge_1, test_crc_gauge_2, test_crc_gauge_3]
  rfl

/-- Both records pass every check of their role; with id 63 the drop record fails check 4. -/
theorem test_checks_drop : reasonOf .drop 20 dropBytes = 0 := by
  simp only [reasonOf, roleChecks, commonChecks, test_crc_drop]; decide +kernel
theorem test_checks_drop_id : reasonOf .drop 63 dropBytes = 4 := by
  simp only [reasonOf, roleChecks, commonChecks, test_crc_drop]; decide +kernel
theorem test_checks_gauge : reasonOf .gauge 1 gaugeBytes = 0 := by
  simp only [reasonOf, roleChecks, commonChecks, test_crc_gauge]; decide +kernel

/-! ### The worked pass (05, section 5.7) -/

/-- The station before the worked pass. -/
def beforePass : State :=
  withTable [⟨102, 4, 6, .unclaimed⟩, ⟨105, 4, 6, .mine .a⟩, ⟨106, 2, 6, .unclaimed⟩, ⟨110, 4, 6, .yielded⟩,
    ⟨118, 2, 6, .unclaimed⟩, ⟨121, 4, 7, .unclaimed⟩, ⟨125, 4, 6, .unclaimed⟩, ⟨126, 4, 6, .unclaimed⟩,
    ⟨133, 4, 6, .unclaimed⟩, ⟨140, 4, 6, .other 12⟩]
    (withCradles (openCradle .opened 5 2 0) Cradle.emptyRecord (dropIn .active))

/-- "The transmit queue holds, highest first: CLAIM 126 (0x7ED4), CLAIM 125 (0x7614), CLAIM 110 (0x7554),
CLAIM 121 (0x6814)." -/
theorem test_worked_pass_queue : (after .passRequest beforePass).bus.queue.map (fun q => (q.frame.value, q.frame.body))
    = [(0x7ED4, .claim 126 .a), (0x7614, .claim 125 .a), (0x7554, .claim 110 .a), (0x6814, .claim 121 .b)] := by decide +kernel

/-- "A SEALED 5, 2, 3; B OPEN, class 4, lot 7, 0, 0, 1". -/
theorem test_worked_pass_cradles :
    (after .passRequest beforePass).cradles.a = openCradle .sealed 5 2 3
    ∧ (after .passRequest beforePass).cradles.b
      = { openCradle .opened 0 0 1 with binding := some ⟨4, 7⟩ } := by decide +kernel

/-! ### Cradles and ties (06, 08) -/

/-- Step 7 of the worked sequence of 06: a pending close and the last MISS: READY short, bunch 41. -/
theorem test_miss_ends_close :
    let s := { withCradles { openCradle .sealed 3 1 0 with pending := .close } (openCradle .opened 0 1 0)
      (dropIn .active) with handed := [] }
    let t := after (.miss .a) { s with cradles := { s.cradles with bunchSequence := 40 } }
    (t.cradles.a.state, t.cradles.a.short, t.cradles.a.bunch, t.cradles.tieQueue, t.handed)
      = (.ready, true, some 41, [.a], [.queueNotice]) := by decide +kernel

/-- The TIE record of the worked sequence of 08: class 4, lot 6, count 10, bunch 1; and the first ABORT. -/
theorem test_tie_bits : tieCommandBits false ⟨.a, 4, 6, 10, 1, false, false⟩ = 0x04600A0001#40
    ∧ tieCommandBits true blankTieRecord = 0x8000000000#40
    ∧ tieCommandBits false ⟨.b, 4, 7, 3, 2, true, true⟩ = 0x7470030002#40 := by decide +kernel

/-- The status word of the worked sequence of 08: TIED, counted 4, fault code 3. -/
theorem test_status_word : tieCodeOf 0x0403#16 = .tied ∧ countedStems 0x0403#16 = 4 ∧ tierFault 0x0403#16 = 3 := by decide +kernel

/-! ### The status record -/

theorem test_status_record_length : State.reset.statusRecord.length = 116 := by decide +kernel

/-- During RESET the read shows the reset values: slot here 1023 at bytes 5 and 6, id 0. -/
theorem test_status_record_reset : (State.reset.statusRecord.take 10)
    = [0#8, 0#8, 0#8, 0#8, 0#8, 3#8, 255#8, 0#8, 0#8, 0#8] := by decide +kernel

/-! ### Numbering -/

/-- The distance 0 to L − 1 round the chain: from 290 forward to 5 on 300 carriers is 15. -/
theorem test_forward_distance : forwardDistance 300 5 290 = 15 ∧ forwardDistance 300 290 5 = 285
    ∧ forwardDistance 300 7 7 = 0 := by decide +kernel

/-- A pulse with HM at slot 100 on 300 carriers is a slip: slot here 0, the SLIP flag, the arrival marked. -/
theorem test_slip : (after (.cpQualification true) (dropIn .active)).tracker.slotHere = some 0
    ∧ (after (.cpQualification true) (dropIn .active)).flag .slip = true
    ∧ (after (.cpQualification true) (dropIn .active)).handed
      = arrivalConsumers (some .drop) ⟨0, 6000, true⟩ := by decide +kernel

/-! ### Witnesses: the hypotheses of each statement can be met

One theorem for each statement with hypotheses, named after it: concrete states and operands that meet the
hypotheses of each of its clauses, at the boundary values where a clause has a range. -/

/-- A state with a command waiting. -/
def waiting (s : State) : State := { s with pending := [.snapshot] }

theorem witness_StepRunsTheFrontCommand : (waiting (dropIn .active)).pending = Instr.snapshot :: [] := rfl

theorem witness_StepWithNoCommandWaiting :
    (((dropIn .active).hand .passRequest).pending = [] ∧ ((dropIn .active).hand .passRequest).handed = .passRequest :: [])
    ∧ (let s := State.reset.setMemory (.retryWait 1 0);
      s.pending = [] ∧ s.handed = [] ∧ s.due = some .retryWaitExpiry)
    ∧ (State.reset.pending = [] ∧ State.reset.handed = [] ∧ State.reset.due = none) := by decide +kernel

/-- Nothing has been brought at reset, nor in ACTIVE with no filter and no timer at its end. -/
theorem witness_NothingBrought : (∀ c, ¬ Brought State.reset c) ∧ (∀ c, ¬ Brought (dropIn .active) c) := by
  constructor <;> intro c h <;> cases h with
  | clear c n h0 h1 => cases c <;> cases h1
  | _ => simp_all [dropIn, State.reset, State.loaded, State.dropLoaded, State.gaugeLoaded, Loader.reset, Tracker.reset,
      LineBus.reset, GaugeUnit.reset, ClaimEngine.reset, ReleaseUnit.reset, TiePort.reset, StatusPort.reset]

/-- A drop station and a gauge station in ACTIVE at the ends of their filters, timers and counts. -/
def brought : State :=
  { dropIn .active with
    tracker := ⟨.tracking, some 100, 22500, some 262143, true, 7, .qualifying 100, .qualifying 50⟩
    bus := { LineBus.reset with state := .waitGap, gap := 240 }
    engine := ⟨false, .changing 2000⟩
    cradles := { CradleManager.reset with clrA := .qualifying 2000, clrB := .qualifying 2000 }
    release := { ReleaseUnit.reset with
      delayed := some ⟨100, .a, 22500, 4000, .delay, false⟩, delayTimer := some 0, rel := true, pulseTimer := some 0
      window := some ⟨.a, 0, 0, none⟩, settle := some 0 }
    tie := { TiePort.reset with phase := .sending, shift := some 0, limit := some 0 }
    status := { StatusPort.reset with ackFilter := .qualifying 2000, flash := some 0 } }

def broughtAtGauge : State :=
  { gaugeIn .active with gauge := { GaugeUnit.reset with
    port := .awaiting 200 false (some 0), window := some ⟨99, 22500, 6328, [none, none, none, none, none], 1⟩
    lotFilter := .qualifying 2000 } }

theorem witness_Brought :
    (∀ c ∈ [Instr.cpQualification (Config.homeMarkLevel brought.now), .stall, .idleGapComplete, .ackPress,
        .lampFlashToggle, .filteredGateEdge, .clear .a, .clear .b, .holdAssertion, .flapSettleExpiry, .delayExpiry,
        .pulseEndExpiry, .confirmationWindowExpiry, .recordShifted], Brought brought c)
    ∧ (∀ c ∈ [Instr.lotPress, .responseLimitExpiry, .scanDue (Config.scanReadyLevel broughtAtGauge.now)],
      Brought broughtAtGauge c)
    ∧ Brought (withQueue [queuedYield 5] (withLine .idle (dropIn .active))) .contentionWindow
    ∧ Brought (State.reset.setMemory (.retryWait 1 0)) .retryWaitExpiry := by
  have hl : brought.loaded := by decide +kernel
  have hd : brought.dropLoaded := by decide +kernel
  have hg : broughtAtGauge.gaugeLoaded := by decide +kernel
  refine ⟨fun c h => ?_, fun c h => ?_, .contentionWindow rfl (.inr rfl) rfl (by decide +kernel),
    .retryWaitExpiry 1 rfl rfl⟩
  · simp only [List.mem_cons, List.not_mem_nil, or_false] at h
    rcases h with rfl | rfl | rfl | rfl | rfl | rfl | rfl | rfl | rfl | rfl | rfl | rfl | rfl | rfl
    · exact .cpQualification 100 hl rfl (by decide +kernel)
    · exact .stall hl rfl rfl
    · exact .idleGapComplete hl rfl (by decide +kernel)
    · exact .ackPress 2000 hl rfl (by decide +kernel)
    · exact .lampFlashToggle hl rfl
    · exact .filteredGateEdge 50 hd rfl (by decide +kernel)
    · exact .clear .a 2000 hd rfl (by decide +kernel)
    · exact .clear .b 2000 hd rfl (by decide +kernel)
    · exact .holdAssertion 2000 hd rfl (by decide +kernel) rfl
    · exact .flapSettleExpiry hd rfl
    · exact .delayExpiry hd (by decide +kernel) rfl
    · exact .pulseEndExpiry hd rfl rfl
    · exact .confirmationWindowExpiry _ hd rfl rfl
    · exact .recordShifted hd rfl rfl
  · simp only [List.mem_cons, List.not_mem_nil, or_false] at h
    rcases h with rfl | rfl | rfl
    · exact .lotPress 2000 hg rfl (by decide +kernel)
    · exact .responseLimitExpiry _ _ _ hg rfl (by decide +kernel)
    · exact .scanDue _ hg rfl (by decide +kernel) (by decide +kernel)

/-- The worked scan times (01): scan 1 of a window at P 22,500 falls due at 6,328 ticks and not at 6,327. -/
theorem test_scan_due :
    let early := { broughtAtGauge with gauge := { GaugeUnit.reset with
      window := some ⟨99, 22500, 6327, [none, none, none, none, none], 1⟩ } }
    broughtAtGauge.scanIsDue = true ∧ early.scanIsDue = false ∧ early.tick.scanIsDue = true := by decide +kernel

theorem witness_StrapsAndMemoryAttempts :
    (State.reset.loader.mode = .loading ∧ State.reset.loader.resetAsserted = true)
    ∧ ((State.reset.setMemory (.transaction 9)).loader.mode = .loading
      ∧ (State.reset.setMemory (.transaction 9)).loader.memory = .transaction 9 ∧ 9 < 10)
    ∧ ((State.reset.setMemory (.transaction 10)).loader.memory = .transaction 10 ∧ 10 ≤ 10)
    ∧ (State.reset.setMemory (.retryWait 9 0)).loader.memory = .retryWait 9 0 := by decide +kernel

/-- The station with its straps read, its transaction under way. -/
def reading (rolePin : Bool) (id : BitVec 6) : State := State.reset.readStraps rolePin id

theorem witness_RecordReadIsJudgedAndTakenIntoUse :
    ((reading false 63#6).loader.mode = .loading ∧ (reading false 63#6).loader.memory = .transaction 1
      ∧ (reading false 63#6).loader.role = some .drop ∧ dropBytes.length = 128
      ∧ ∃ k, (k, true) ∈ roleChecks .drop 63 dropBytes
        ∧ ∀ j, (j, true) ∈ roleChecks .drop 63 dropBytes → k ≤ j)
    ∧ ((reading false 20#6).loader.role = some .drop ∧ (reading false 20#6).bus.queue = []
      ∧ ∀ j, (j, true) ∉ roleChecks .drop (reading false 20#6).stationId dropBytes)
    ∧ ((reading true 1#6).loader.role = some .gauge ∧ gaugeBytes.length = 128 ∧ (reading true 1#6).bus.queue = []
      ∧ ∀ j, (j, true) ∉ roleChecks .gauge (reading true 1#6).stationId gaugeBytes) := by
  refine ⟨⟨rfl, rfl, rfl, rfl, 4, ?_, ?_⟩, ⟨rfl, rfl, ?_⟩, ⟨rfl, rfl, rfl, ?_⟩⟩
  · simp only [roleChecks, commonChecks, test_crc_drop]; decide +kernel
  · intro j h
    have e : ∀ p ∈ roleChecks .drop 63 dropBytes, p.2 = true → 4 ≤ p.1 := by
      simp only [roleChecks, commonChecks, test_crc_drop]; decide +kernel
    exact e _ h rfl
  · intro j h
    have e : ∀ p ∈ roleChecks .drop 20 dropBytes, p.2 = false := by
      simp only [roleChecks, commonChecks, test_crc_drop]; decide +kernel
    exact absurd (e _ h) (by simp)
  · intro j h
    have e : ∀ p ∈ roleChecks .gauge 1 gaugeBytes, p.2 = false := by
      simp only [roleChecks, commonChecks, test_crc_gauge]; decide +kernel
    exact absurd (e _ h) (by simp)

/-- A station in ANNOUNCING with its timer running. -/
def announcing (s : State) : State := { s with loader := { s.loader with mode := .announcing, announce := some 0 } }

theorem witness_AnnouncingEndsInActive :
    ((announcing (dropIn .active)).loader.mode = .announcing ∧ (announcing (dropIn .active)).loader.announce ≠ none
      ∧ (announcing (dropIn .active)).loader.role = some .drop)
    ∧ ((announcing (gaugeIn .active)).loader.mode = .announcing ∧ (announcing (gaugeIn .active)).loader.announce ≠ none
      ∧ (announcing (gaugeIn .active)).loader.role = some .gauge)
    ∧ ((dropIn .active).loader.role = some .drop ∧ (dropIn .active).loader.mode = .active
      ∧ (dropIn .active).cradles.tieQueue = []) := by decide +kernel

theorem witness_HaltNoticeIsTakenByEachBlock :
    ((dropIn .halted).loader.mode = .halted ∧ (dropIn .halted).loader.role = some .drop)
    ∧ ((gaugeIn .halted).loader.mode = .halted ∧ (gaugeIn .halted).loader.role = some .gauge) := by decide +kernel

theorem witness_ModeMovesOnlyAsTheTableGives :
    (∃ t, exec .reset (dropIn .halted) = .next t) ∧ (∃ t, exec .announceTimerExpiry (announcing (dropIn .active)) = .next t)
    ∧ ((dropIn .active).loader.role = some .drop ∧ (dropIn .active).loader.mode = .active
      ∧ (dropIn .halted).loader.mode = .halted)
    ∧ ((gaugeIn .active).loader.role = some .gauge ∧ (gaugeIn .active).loader.mode = .active)
    ∧ ((reading false 20#6).loader.mode = .loading ∧ ∃ n, (reading false 20#6).loader.memory = .transaction n) :=
  ⟨⟨_, rfl⟩, ⟨_, rfl⟩, by decide +kernel, by decide +kernel, rfl, 1, rfl⟩

theorem witness_BlocksKeepResetValuesUntilLoaded :
    (waiting (reading false 20#6)).idleBeforeLoad ∧ ∃ t, step (waiting (reading false 20#6)) = .next t :=
  ⟨fun _ => ⟨rfl, rfl, rfl, rfl, rfl, rfl, rfl, rfl, rfl, fun f _ => by cases f <;> rfl, rfl, rfl, rfl⟩, _, rfl⟩

theorem witness_FiltersFollowTheirInputs :
    (dropIn .active).filter .gate = .released ∧ (gaugeIn .active).filter .gate = .stopped
    ∧ (dropIn .active).filter .cp ≠ .stopped ∧ State.reset.filter .ack ≠ .released := by decide +kernel

theorem witness_EarlyPulseAndUnsyncedPulse :
    (let s := { dropIn .active with tracker := ⟨.unsynced, none, 22500, some 4999, false, 599, .qualifying 100, .released⟩ };
      s.loaded ∧ s.tracker.cpFilter.admitsEdge = true ∧ s.tracker.interval = some 4999 ∧ 4999 < s.cfg.periodMin)
    ∧ (let s := { dropIn .active with tracker := ⟨.unsynced, none, 22500, some 5000, false, 599, .qualifying 100, .released⟩ };
      s.loaded ∧ s.tracker.cpFilter.admitsEdge = true ∧ s.tracker.interval = some 5000 ∧ s.cfg.periodMin ≤ 5000
      ∧ s.tracker.state = .unsynced) := by decide +kernel

theorem witness_PulseInTrackingNumbersAndTimes :
    let s := dropIn .active
    s.loaded ∧ s.tracker.cpFilter.admitsEdge = true ∧ s.tracker.interval = some 6000 ∧ s.cfg.periodMin ≤ 6000
      ∧ s.tracker.state = .tracking ∧ s.tracker.slotHere = some 100 ∧ 0 < s.cfg.chainLength := by decide +kernel

/-- A station whose interval timer stands at 262,143. -/
def slow (st : TrackerState) : State :=
  { dropIn .active with tracker := ⟨st, some 299, 22500, some 262143, true, 7, .released, .released⟩ }

theorem witness_StallAndTheReturnFromIt :
    ((slow .tracking).loaded ∧ (slow .tracking).tracker.cpFilter.admitsEdge = true ∧ (slow .tracking).cfg.periodMin ≤ 262143
      ∧ (slow .tracking).tracker.state = .tracking ∧ (slow .tracking).tracker.interval = some 262143
      ∧ (slow .tracking).tracker.timed = true)
    ∧ ((slow .stalled).loaded ∧ (slow .stalled).tracker.cpFilter.admitsEdge = true
      ∧ (slow .stalled).tracker.interval = some 262143 ∧ (slow .stalled).cfg.periodMin ≤ 262143
      ∧ (slow .stalled).tracker.state = .stalled ∧ (slow .stalled).tracker.slotHere = some 299
      ∧ (299 + 1) % (slow .stalled).cfg.chainLength = 0)
    ∧ (let s := { slow .stalled with tracker := { (slow .stalled).tracker with slotHere := some 100, homeCount := 599 } };
      s.tracker.slotHere = some 100 ∧ (100 + 1) % s.cfg.chainLength ≠ 0
      ∧ 2 * s.cfg.chainLength ≤ s.tracker.homeCount + 1) := by decide +kernel

theorem witness_TrackerStaysInItsRanges :
    (waiting (dropIn .active)).trackerSound ∧ ∃ t, step (waiting (dropIn .active)) = .next t := by
  refine ⟨⟨fun h => ?_, fun _ => ⟨⟨dropConfig dropBytes, rfl, ?_⟩, ?_, ?_, ?_, ?_, ?_, ?_⟩⟩, _, rfl⟩
  · exact absurd h (by decide +kernel)
  · unfold trackable; decide +kernel
  · decide +kernel
  · decide +kernel
  · decide +kernel
  · intro x h; cases h; decide +kernel
  · intro x h; cases h; decide +kernel
  · decide +kernel

/-! #### The line bus -/

/-- A station contending with the second frame of its queue, with an event held for it. -/
def contendingWith (e : Option HeldEvent) : State :=
  withQueue [queuedYield 5, { contended (queuedClaim 110) with heldEvent := e }, queuedClaim 121]
    (withLine .contending (dropIn .active))

/-- The same with an entry whose withdrawal waits for the contention's end. -/
def contendingWaiting (e : Option HeldEvent) (w : Withdrawal) : State :=
  { withTable [⟨110, 4, 6, .tentative .a none (some w)⟩, ⟨112, 4, 6, .unclaimed⟩] (contendingWith e) with
    bus := { (contendingWith e).bus with
      removalHeld := some (.claim 110 .a), removalAnswer := some ⟨.claim 110 .a, .deferred⟩ } }

/-- R22, R30, R74: once the contention is lost the withdrawal that waited is carried out, and a peer's CLAIM then finds
the stem UNCLAIMED: OTHER. With the contention won the withdrawal's reason becomes the pending yield. -/
theorem test_waiting_withdrawal :
    (let t := after .contentionLost (contendingWaiting (some .removed) ⟨.unclaimed, some .hold⟩);
      t.entry? 110 = some ⟨110, 4, 6, .unclaimed⟩ ∧ t.handed = [.claimOutcome 110 .removed, .returnCount .a]
      ∧ t.bus.queue = [queuedYield 5, queuedClaim 121]
      ∧ (after (.claimOutcome 110 .removed) (after (.flightTableClaim 110 .b 12) t)).entry? 110
        = some ⟨110, 4, 6, .other 12⟩)
    ∧ (after .contentionWon (contendingWaiting (some .removed) ⟨.unclaimed, some .hold⟩)).entry? 110
      = some ⟨110, 4, 6, .tentative .a (some .hold) none⟩ := by decide +kernel

/-- R30, R33: the request held for the frame in contention is answered at the contention's end, though a request for
another frame has been answered since. -/
theorem test_held_removal_is_answered :
    let s := after (.removalRequest (.claim 121 .a)) (after (.removalRequest (.claim 110 .a)) (contendingWith none))
    s.bus.removalAnswer = some ⟨.claim 121 .a, .removed⟩ ∧ s.bus.removalHeld = some (.claim 110 .a)
      ∧ (after .contentionWon s).bus.removalAnswer = some ⟨.claim 110 .a, .inTransmission⟩
      ∧ (after .contentionLost s).bus.removalAnswer = some ⟨.claim 110 .a, .removed⟩
      ∧ (after .contentionLost s).bus.removalHeld = none := by decide +kernel

/-- R74: a heard CLAIM that withdraws a claim in contention waits with target OTHER, and one whose CLAIM has ended
takes that target at once. -/
theorem test_peer_withdrawal :
    (let t := after .contentionLost (after (.flightTableClaim 110 .b 12)
        (withTable [⟨110, 4, 6, .tentative .a none none⟩] (contendingWith none)));
      t.entry? 110 = some ⟨110, 4, 6, .other 12⟩ ∧ t.counter .claimsWithdrawn = 1)
    ∧ (after (.flightTableClaim 110 .b 12) (withTable [⟨110, 4, 6, .tentative .a none (some ⟨.unclaimed, none⟩)⟩]
        (dropIn .active))).entry? 110 = some ⟨110, 4, 6, .other 12⟩ := by decide +kernel

/-- A station sending its YIELD, or its STEM at a gauge. -/
def sendingFrame (s : State) (f : Frame) : State :=
  { s with bus := { s.bus with state := .sending, sending := some f, spoilRun := 15 } }

theorem witness_LineStateFollowsTheLine :
    (withLine .waitGap (dropIn .active)).bus.state = .waitGap ∧ (withLine .stuck (dropIn .active)).bus.state = .stuck
    ∧ (let s := withQueue [queuedYield 5] (withLine .idle (dropIn .active));
      s.bus.state = .idle ∧ s.loader.mode = .active ∧ s.flag .txFault = false ∧ s.bus.queue = queuedYield 5 :: [])
    ∧ (let s := withLine .idle (dropIn .halted);
      s.bus.state = .idle ∧ s.loader.mode ≠ .announcing ∧ s.loader.mode ≠ .active)
    ∧ (∀ e ∈ [none, some HeldEvent.expired, some .removed], (contendingWith e).bus.state = .contending
      ∧ (contendingWith e).bus.queue = [queuedYield 5] ++ { contended (queuedClaim 110) with heldEvent := e } :: [queuedClaim 121]
      ∧ ((contendingWith e).bus.queue.find? (fun q => q.contended)).map (fun q => q.frame) = some (queuedClaim 110).frame
      ∧ (contendingWith e).loader.mode = .active)
    ∧ (contended (queuedClaim 110)).contended = true ∧ (queuedYield 5).contended = false ∧ (queuedClaim 121).contended = false
    ∧ (let s := sendingFrame (dropIn .active) ⟨40980, .yield 5 .skip⟩;
      s.bus.state = .sending ∧ s.bus.sending = some ⟨40980, .yield 5 .skip⟩ ∧ s.loader.mode = .active ∧ 15 ≤ s.bus.spoilRun)
    ∧ (frameBytes ⟨40980, .yield 5 .skip⟩).length = 6 ∧ (frameBytes ⟨40980, .yield 5 .skip⟩)[5]? ≠ none := by decide +kernel

theorem witness_ContentionIsLostOrWon :
    (∀ e ∈ [none, some HeldEvent.expired, some .removed], (contendingWith e).bus.state = .contending
      ∧ (contendingWith e).bus.queue
        = [queuedYield 5] ++ { contended (queuedClaim 110) with heldEvent := e } :: [queuedClaim 121])
    ∧ (contended (queuedClaim 110)).contended = true ∧ (∀ x ∈ [queuedYield 5], x.contended = false)
    ∧ (∀ x ∈ [queuedClaim 121], x.contended = false) := by decide +kernel

/-- A lost, won, failed, discarded or stuck contention with a withdrawal waiting for its end, and with none. -/
theorem witness_WaitingAtTheEndOfAContention :
    (∀ e ∈ [some HeldEvent.expired, some .removed], ∀ target ∈ [WithdrawalTarget.unclaimed, .other 12, .released, .removal],
      let s := contendingWaiting e ⟨target, some .hold⟩
      s.bus.state = .contending
        ∧ s.bus.queue = [queuedYield 5] ++ { contended (queuedClaim 110) with heldEvent := e } :: [queuedClaim 121]
        ∧ (s.waitingFor (queuedClaim 110).frame.body).map WaitingClaim.withdrawal = some ⟨target, some .hold⟩)
    ∧ ((contendingWith (some .removed)).waitingFor (queuedClaim 110).frame.body).isNone = true
    ∧ (contendingWaiting (some .removed) ⟨.unclaimed, none⟩).bus.removalHeld = some (.claim 110 .a)
    ∧ (contendingWith (some .removed)).bus.removalHeld = none := by decide +kernel

theorem witness_SpoiledTransmissionsAreCounted :
    ((sendingFrame (dropIn .active) ⟨40980, .yield 5 .skip⟩).bus.state = .sending
      ∧ (sendingFrame (dropIn .active) ⟨40980, .yield 5 .skip⟩).bus.sending = some ⟨40980, .yield 5 .skip⟩)
    ∧ ((contendingWith none).bus.state = .contending
      ∧ (contendingWith none).bus.queue = [queuedYield 5] ++ contended (queuedClaim 110) :: [queuedClaim 121]
      ∧ (contended (queuedClaim 110)).contended = true) := by decide +kernel

theorem witness_SentFrameIsHeardByItsSender :
    (let s := sendingFrame (dropIn .active) ⟨40980, .yield 5 .skip⟩;
      s.bus.sending = some ⟨40980, .yield 5 .skip⟩ ∧ s.loader.mode = .active ∧ (⟨40980, .yield 5 .skip⟩ : Frame).sender = s.stationId
      ∧ contentBad s.cfg.chainLength (.yield 5 .skip) = false ∧ isGaugeFrame (.yield 5 .skip) = false)
    ∧ (let s := sendingFrame (gaugeIn .active) ⟨49153, .stem 299 4 750 6 .none⟩;
      s.bus.sending = some ⟨49153, .stem 299 4 750 6 .none⟩ ∧ (⟨49153, .stem 299 4 750 6 .none⟩ : Frame).sender = s.stationId
      ∧ contentBad s.cfg.chainLength (.stem 299 4 750 6 .none) = false ∧ s.loader.role = some .gauge) := by decide +kernel

/-- The characters of the gauge's HELLO (11, section 11.1). -/
def helloChars : List Byte := [0x20#8, 0x01#8, 0x01#8, 0x69#8, 0x4A#8]

theorem witness_IdentityChecksHaltTheStation :
    (parseFrame helloChars = some ⟨0x2001, .hello 1⟩ ∧ (gaugeIn .active).bus.state = .receiving
      ∧ (⟨0x2001, .hello 1⟩ : Frame).sender = (gaugeIn .active).stationId ∧ (gaugeIn .active).loader.mode = .active)
    ∧ (let s := { gaugeIn .active with loader := { (gaugeIn .active).loader with id := some 2#6 } };
      s.bus.state = .receiving ∧ (⟨0x2001, .hello 1⟩ : Frame).sender ≠ s.stationId ∧ s.loader.role = some .gauge
      ∧ isGaugeFrame (.hello 1) = true)
    ∧ ((dropIn .halted).bus.state = .receiving ∧ (dropIn .halted).loader.mode = .halted) := by decide +kernel

/-- A station that receives what is left of its own spoiled frame. -/
def ownRemains : State := { dropIn .active with bus := { (dropIn .active).bus with ownSpoiled := true } }

/-- R23, R26: what is left of the own spoiled frame is no receive error, found bad at its CRC or before; the next discarded
frame is one, and so is a discard after a failed drive. -/
theorem test_own_spoil_is_no_receive_error :
    let s := after .spoil (sendingFrame (dropIn .active) ⟨40980, .yield 5 .skip⟩)
    let t := after (.frameDiscarded .badCrc) s
    let u := after .contentionWindow (after .idleGapComplete t)
    (t.counter .receiveErrors = 0 ∧ t.bus.state = .waitGap)
    ∧ (after (.frameHeard [0x20#8, 0x01#8, 0x01#8, 0x69#8, 0x4B#8]) s).counter .receiveErrors = 0
    ∧ (u.bus.state = .receiving ∧ (after (.frameDiscarded .framing) u).counter .receiveErrors = 1)
    ∧ (after (.frameDiscarded .short) (after .contentionDriveFailed (contendingWith none))).counter .receiveErrors = 1 := by
  decide +kernel

theorem witness_HeardFrameReachesItsConsumer :
    (let s := dropIn .active;
      s.bus.state = .receiving ∧ parseFrame helloChars = some ⟨0x2001, .hello 1⟩ ∧ s.loader.mode = .active
      ∧ (⟨0x2001, .hello 1⟩ : Frame).sender ≠ s.stationId ∧ ¬ (s.loader.role = some .gauge ∧ isGaugeFrame (.hello 1) = true)
      ∧ contentBad s.cfg.chainLength (.hello 1) = false ∧ isGaugeFrame (.hello 1) = true
      ∧ s.bus.gaugeId = some (⟨0x2001, .hello 1⟩ : Frame).sender)
    ∧ (let s := { dropIn .active with bus := { (dropIn .active).bus with gaugeId := some 9 } };
      s.bus.gaugeId = some 9 ∧ 9 ≠ (⟨0x2001, .hello 1⟩ : Frame).sender)
    ∧ (let f := frameBytes (plainFrame 12 (.yield 300 .hold))
      parseFrame f = some (plainFrame 12 (.yield 300 .hold)) ∧ contentBad 300 (.yield 300 .hold) = true)
    ∧ (let f := frameBytes (plainFrame 12 (.yield 299 .hold))
      parseFrame f = some (plainFrame 12 (.yield 299 .hold)) ∧ contentBad 300 (.yield 299 .hold) = false
      ∧ isGaugeFrame (.yield 299 .hold) = false)
    ∧ (crcGood [0x20#8, 0x01#8, 0x01#8, 0x69#8, 0x4B#8] = false ∧ parseFrame [0x20#8, 0x01#8, 0x01#8, 0x69#8, 0x4B#8] = none)
    ∧ (∀ q ∈ (dropIn .active).bus.queue, q.contended = false)
    ∧ (dropIn .active).bus.ownSpoiled = false
    ∧ (ownRemains.bus.state = .receiving ∧ ownRemains.bus.ownSpoiled = true
      ∧ ∀ q ∈ ownRemains.bus.queue, q.contended = false)
    ∧ (∀ e ∈ [none, some HeldEvent.expired, some .removed], (contendingWith e).bus.state = .contending
      ∧ (contendingWith e).bus.queue
        = [queuedYield 5] ++ { contended (queuedClaim 110) with heldEvent := e } :: [queuedClaim 121]) := by decide +kernel

theorem witness_YieldIsOfferedToTheQueue :
    ((dropIn .halted).loader.role = some .drop ∧ (dropIn .halted).loader.mode = .halted
      ∧ (dropIn .halted).bus.queue.Pairwise (fun x y => y.frame.value ≤ x.frame.value))
    ∧ (let s := withQueue ((fullQueue (queuedYield 5)).take 15) (dropIn .active);
      s.bus.queue.length < 16 ∧ s.bus.queue.Pairwise (fun x y => y.frame.value ≤ x.frame.value) ∧ s.loader.mode = .active)
    ∧ (let s := withQueue (fullQueue (queuedYield 5)) (dropIn .active);
      16 ≤ s.bus.queue.length ∧ s.bus.queue.Pairwise (fun x y => y.frame.value ≤ x.frame.value)
      ∧ ∀ q ∈ s.bus.queue, q.contended = true ∨ claimSlot q.frame.body = none)
    ∧ (let s := withQueue ((fullQueue (queuedYield 5)).take 15 ++ [queuedClaim 110]) (dropIn .active);
      16 ≤ s.bus.queue.length ∧ s.bus.queue.Pairwise (fun x y => y.frame.value ≤ x.frame.value)
      ∧ s.bus.queue = (fullQueue (queuedYield 5)).take 15 ++ queuedClaim 110 :: [] ∧ (queuedClaim 110).contended = false
      ∧ claimSlot (queuedClaim 110).frame.body = some 110
      ∧ ∀ x ∈ (fullQueue (queuedYield 5)).take 15, claimSlot x.frame.body ≠ some 110) := by decide +kernel

/-- A queue at slot 100 of a YIELD and a CLAIM that are due, a CLAIM not yet due, and a due CLAIM being contended. -/
def agingQueue : State :=
  withQueue [queuedYield 5, queuedClaim 103, queuedClaim 104, { contended (queuedClaim 102) with heldEvent := none }]
    (dropIn .active)

theorem witness_CarrierNoticeAgesTheQueue :
    agingQueue.loaded
    ∧ ((queuedYield 5).count + 1 = 8 ∧ (queuedYield 5).deadline = some 8 ∧ claimSlot (queuedYield 5).frame.body = none)
    ∧ (queuedClaim 103).deadline = some 3 ∧ claimSlot (queuedClaim 103).frame.body = some 103
    ∧ forwardDistance agingQueue.cfg.chainLength 103 100 = 3 ∧ forwardDistance agingQueue.cfg.chainLength 104 100 = 4
    ∧ forwardDistance agingQueue.cfg.chainLength 102 100 ≤ 3 ∧ (contended (queuedClaim 102)).contended = true := by
  decide +kernel

/-- R30, R32: the due frames leave with EXPIRED, the one being contended holds its expiry. -/
theorem test_carrier_notice : let t := after (.carrierNotice 100) agingQueue;
    t.bus.queue = [queuedClaim 104, { contended (queuedClaim 102) with heldEvent := some .expired }]
    ∧ t.handed = [.yieldOutcome 5 .skip .expired, .claimOutcome 103 .expired] ∧ t.counter .framesDropped = 2 := by
  decide +kernel

theorem witness_RemovalRequestIsAnswered :
    (let s := withQueue [queuedYield 5, queuedClaim 110] (dropIn .active);
      s.loaded ∧ s.bus.queue = [queuedYield 5] ++ queuedClaim 110 :: []
      ∧ sameFrame (.claim 110 .a) (queuedClaim 110).frame.body = true
      ∧ (∀ x ∈ [queuedYield 5], sameFrame (.claim 110 .a) x.frame.body = false) ∧ (queuedClaim 110).contended = false
      ∧ ∀ q ∈ s.bus.queue, sameFrame (.claim 111 .a) q.frame.body = false)
    ∧ (∀ e ∈ [none, some HeldEvent.expired, some .removed], (contendingWith e).loaded
      ∧ (contendingWith e).bus.queue
        = [queuedYield 5] ++ { contended (queuedClaim 110) with heldEvent := e } :: [queuedClaim 121]
      ∧ sameFrame (.claim 110 .a) (contended (queuedClaim 110)).frame.body = true
      ∧ (contended (queuedClaim 110)).contended = true ∧ ∀ x ∈ [queuedClaim 121], x.contended = false) := by decide +kernel

theorem witness_TransmitQueueStaysInOrder :
    let s := waiting (withQueue [queuedYield 5, queuedYield 5, queuedClaim 110] (dropIn .active))
    s.queueSound ∧ ∃ t, step s = .next t :=
  ⟨by unfold State.queueSound; decide +kernel, _, rfl⟩

theorem witness_FrameIsReadBackFromItsCharacters :
    (FrameBody.stem 1022 15 2047 15 .unsteady).wellFormed = true ∧ (FrameBody.claim 1022 .b).wellFormed = true
    ∧ (FrameBody.hello 255).wellFormed = true ∧ 127 < 128 ∧ 63 < 64 := by decide +kernel

/-- The step of R24's register, by its polynomial. -/
theorem witness_CrcRegisterStep : ∃ takeIn : Word16 → Bool → Word16, ∀ register bit i, i < 16 →
    (takeIn register bit).getLsbD i = ((decide (1 ≤ i) && register.getLsbD (i - 1))
      ^^ ((register.getLsbD 15 ^^ bit) && decide (i = 0 ∨ i = 5 ∨ i = 12))) :=
  ⟨crcBit, crcBit_getLsbD⟩

theorem witness_OutcomesReachTheirOwners :
    (gaugeIn .halted).gaugeLoaded ∧ (dropIn .halted).dropLoaded ∧ (gaugeIn .halted).loader.role = some .gauge
    ∧ (gaugeIn .halted).loader.mode ≠ .active
    ∧ ((gaugeIn .active).loader.mode = .active ∧ (gaugeIn .active).bus.queue.length < 16) := by decide +kernel

/-! #### The gauge -/

/-- A window open for slot 99 with given results and the port in a state. -/
def measuring (p : ScanPort) (results : List (Option ScanResult)) (next : Nat) : State :=
  { gaugeIn .active with gauge := { (gaugeIn .active).gauge with
      port := p, window := some ⟨99, 22500, 9141, results, next⟩, lostRun := 7 } }

theorem witness_GaugeArrivalOpensAWindow :
    (announcing (gaugeIn .active)).loader.mode = .announcing ∧ (gaugeIn .active).loader.mode = .active
    ∧ (gaugeIn .active).loader.role = some .gauge ∧ (gaugeIn .active).gauge.window = none
    ∧ (∀ results ∈ [[some .clear, none], [some .clear, some .clear], [some (.stem 101), some (.stem 101), some (.stem 101), none]],
      (measuring .idle results 2).gauge.window = some ⟨99, 22500, 9141, results, 2⟩
      ∧ (measuring .idle results 2).gauge.lostRun = 7)
    ∧ (let s := { gaugeIn .active with gauge := { (gaugeIn .active).gauge with watch := [⟨200, some 4, 1⟩, ⟨201, none, 2⟩] } };
      s.gauge.watch.filter (fun e => decide (s.cfg.runOutHorizon ≤ forwardDistance s.cfg.chainLength 100 e.slot))
        = [⟨200, some 4, 1⟩]
      ∧ forwardDistance s.cfg.chainLength 100 201 + 1 = s.cfg.runOutHorizon) := by decide +kernel

/-- R45, R53, R57, R62: a cut window with three valid scans issues its stem, its press offers the LOT after it, the
entry at U runs out and the one before it stays. -/
theorem test_cut_window :
    let s := measuring (.awaiting 3 true (some 3)) [some (.stem 101), some (.stem 101), some (.stem 102), none, none] 4
    let t := after (.gaugeCarrierArrival ⟨100, 22500, false⟩) { s with gauge := { s.gauge with
      pendingPress := true, watch := [⟨200, none, 1⟩, ⟨201, some 2, 2⟩] } }
    t.bus.queue.map (fun q => q.frame.body) = [.stem 99 4 745 6 .none, .lot 6 99] ∧ t.gauge.lotNumber = 7
      ∧ t.counter .scansLost = 2 ∧ t.flag .scanFault = true ∧ t.gauge.port = .awaiting 3 true none
      ∧ t.counter .unserved = 1 ∧ t.gauge.lastUnserved = some 15 ∧ t.gauge.watch = [⟨201, some 2, 1⟩] := by decide +kernel

theorem witness_ScansBeginAndEnd :
    (let s := measuring .idle [none, none, none, none, none] 4;
      s.gaugeLoaded ∧ s.gauge.window = some ⟨99, 22500, 9141, [none, none, none, none, none], 4⟩
      ∧ 4 < s.cfg.scanCount ∧ s.gauge.port = .idle)
    ∧ (let s := measuring (.awaiting 3 false (some 0)) [none, none, none, none, none] 1;
      s.gauge.port ≠ .idle ∧ 0 ≠ 1 ∧ [(none : Option ScanResult), none, none, none, none][0]? = some none)
    ∧ (let s := measuring (.awaiting 3 false (some 0)) [none, none, none, none, none] 1;
      s.gaugeLoaded ∧ s.gauge.port = .awaiting 3 false (some 0) ∧ 1 ≠ 0
      ∧ [(none : Option ScanResult), none, none, none, none][1]? = some none)
    ∧ (measuring (.awaiting 3 true none) [none] 0).gauge.port = .awaiting 3 true none := by decide +kernel

theorem witness_WindowIsEvaluatedByTheRules :
    let cfg := gaugeConfig gaugeBytes
    let results : List ScanResult := [.stem 101, .stem 103, .clear, .stem 102, .stem 102]
    [101, 102, 102, 103].Pairwise (fun x y => x ≤ y) ∧ [101, 102, 102, 103].Perm (results.filterMap validBeam)
      ∧ ¬ (∀ r ∈ results, r = .clear) ∧ cfg.validMinimum ≤ 4
      ∧ [101, 102, 102, 103].getLastD 0 - [101, 102, 102, 103].headD 0 ≤ cfg.spreadLimit
      ∧ cfg.classBounds.Pairwise (fun x y => x < y) ∧ cfg.classBounds = [400, 500, 600, 700] ++ [800]
      ∧ (∀ b ∈ [400, 500, 600, 700], b ≤ 750) ∧ (∀ b ∈ [800], 750 < b) := by decide +kernel

/-- The last scan of a window is under way, its record a STEM at beam 102. -/
def lastScan (hold press : Bool) (queue : List QueuedFrame) : State :=
  withQueue queue
    { measuring (.awaiting 3 true (some 4)) [some (.stem 101), some (.stem 103), some .clear, some (.stem 102), none] 5 with
      pins := { Pins.reset with hold := hold }
      gauge := { (measuring (.awaiting 3 true (some 4))
        [some (.stem 101), some (.stem 103), some .clear, some (.stem 102), none] 5).gauge with pendingPress := press } }

theorem witness_LastScanIssuesTheStem :
    (∀ hold ∈ [false, true], ∀ press ∈ [false, true], ∀ queue ∈ [[], fullQueue (queuedStem 5),
        (fullQueue (queuedStem 5)).take 15 ++ [queuedClaim 110]],
      let s := lastScan hold press queue
      s.loader.role = some .gauge ∧ s.loader.mode = .active ∧ s.gauge.port = .awaiting 3 true (some 4)
      ∧ s.gauge.window
        = some ⟨99, 22500, 9141, [some (.stem 101), some (.stem 103), some .clear, some (.stem 102), none], 5⟩
      ∧ s.gauge.pendingPress = press ∧ s.pins.hold = hold ∧ s.bus.queue = queue)
    ∧ scanResultOf (lastScan false false []).cfg.beams 0x4066#16 = .stem 102
    ∧ (∀ r ∈ [ScanResult.stem 102, .clear, .lost],
      ([some (ScanResult.stem 101), some (.stem 103), some .clear, some (.stem 102), none].set 4 (some r)).all Option.isSome = true)
    ∧ (let s := measuring (.awaiting 3 true (some 3)) [some .clear, some .clear, some .clear, some .clear, none] 4;
      s.gauge.port ≠ .idle ∧ 4 < s.cfg.scanCount
      ∧ ([some ScanResult.clear, some .clear, some .clear, some .clear, none].set 4 (some .lost)).all Option.isSome = true) := by
  decide +kernel

/-- R31, R53, R57: with a full queue of STEMs the last scan's stem and the press's LOT are dropped, and the lot number
advances. -/
theorem test_last_scan_full_queue :
    let t := after (.scanRecordComplete 0x4066#16) (lastScan false true (fullQueue (queuedStem 5)))
    t.bus.queue = fullQueue (queuedStem 5) ∧ t.counter .framesDropped = 2 ∧ t.gauge.lotNumber = 7
      ∧ t.gauge.pendingPress = false ∧ t.gauge.lastStemSlot = none ∧ t.gauge.window = none := by decide +kernel

theorem witness_LotPressEndsTheLot :
    ((gaugeIn .halted).gaugeLoaded ∧ (gaugeIn .halted).gauge.lotFilter.admitsEdge = true ∧ (gaugeIn .halted).loader.mode ≠ .active)
    ∧ ((measuring .idle [none] 0).gauge.window ≠ none ∧ (measuring .idle [none] 0).loader.mode = .active)
    ∧ (let s := { gaugeIn .active with tracker := { (gaugeIn .active).tracker with state := .unsynced, slotHere := none } };
      s.gauge.window = none ∧ s.gauge.lastStemSlot = none ∧ s.tracker.state = .unsynced)
    ∧ (∀ queue ∈ [(fullQueue (queuedStem 5)).take 15, fullQueue (queuedStem 5),
        (fullQueue (queuedStem 5)).take 15 ++ [queuedClaim 110]],
      let s := withQueue queue (gaugeIn .active)
      s.gauge.window = none ∧ s.gauge.lastStemSlot = none ∧ s.tracker.state ≠ .unsynced ∧ s.tracker.slotHere = some 100
      ∧ s.bus.queue = queue)
    ∧ (let s := { gaugeIn .active with gauge := { (gaugeIn .active).gauge with lastStemSlot := some 98 } };
      s.gauge.window = none ∧ s.gauge.lastStemSlot = some 98) := by decide +kernel

/-- A gauge with given entries in its watch. -/
def watching (l : List WatchEntry) : State :=
  { gaugeIn .active with gauge := { (gaugeIn .active).gauge with watch := l } }

theorem witness_WatchTakesHeardFrames :
    (let s := watching ((List.range 127).map fun i => ⟨i, some 4, 1⟩);
      (s.gauge.watch.filter (fun e => e.slot != 201)).length < 128
      ∧ forwardDistance s.cfg.chainLength (s.tracker.slotHere.getD 0) 201 = 199 ∧ 199 < s.cfg.runOutHorizon
      ∧ s.gauge.watch.filter (fun e => e.slot != 201) = s.gauge.watch ∧ s.tracker.state ≠ .unsynced
      ∧ forwardDistance s.cfg.chainLength (s.tracker.slotHere.getD 0) 200 = 200 ∧ s.cfg.runOutHorizon ≤ 200)
    ∧ (let s := watching ((List.range 128).map fun i => ⟨i, some 4, 1⟩);
      128 ≤ (s.gauge.watch.filter (fun e => e.slot != 201)).length
      ∧ s.gauge.watch.filter (fun e => e.slot != 5) ≠ s.gauge.watch) := by decide +kernel

theorem witness_IssueWatchStaysBounded :
    (waiting (watching [⟨99, some 4, 199⟩, ⟨98, none, 198⟩])).watchSound
    ∧ ∃ t, step (waiting (watching [⟨99, some 4, 199⟩, ⟨98, none, 198⟩])) = .next t :=
  ⟨by unfold State.watchSound; decide +kernel, _, rfl⟩

/-! #### The flight table -/

/-- A full lot-close list whose first record a slip to slot 100 has put behind the others. -/
def afterSlip : State := { dropIn .active with table := ⟨[], [⟨1, 99⟩, ⟨2, 102⟩, ⟨3, 102⟩, ⟨4, 104⟩]⟩ }

theorem witness_HeardStemsAndLotsAreRecorded :
    (let s := withTable [⟨110, 4, 6, .unclaimed⟩] (dropIn .active);
      s.loader.role = some .drop ∧ s.loader.mode = .active ∧ s.tracker.state = .tracking ∧ (∃ e ∈ s.cfg.services, e.cls = 4)
      ∧ (∀ e ∈ s.cfg.services, e.cls ≠ 5) ∧ s.rem 100 = 0 ∧ s.cfg.depth < s.rem 181
      ∧ 1 ≤ s.rem 101 ∧ s.rem 180 ≤ s.cfg.depth ∧ (∃ e ∈ s.table.entries, e.slot = 110)
      ∧ ∀ e ∈ s.table.entries, e.slot ≠ 180)
    ∧ (let s := { slow .tracking with tracker := { (slow .tracking).tracker with state := .unsynced } };
      s.loader.mode = .active ∧ s.tracker.state = .unsynced)
    ∧ (dropIn .halted).loader.mode ≠ .active
    ∧ (let s := { dropIn .active with table := ⟨[], [⟨1, 101⟩, ⟨2, 102⟩, ⟨3, 103⟩, ⟨4, 104⟩]⟩ };
      (s.table.lotCloses.filter (fun r => r.lot != 4)).length < 4
      ∧ s.table.lotCloses.filter (fun r => r.lot != 6) = ⟨1, 101⟩ :: [⟨2, 102⟩, ⟨3, 103⟩, ⟨4, 104⟩]
      ∧ 4 ≤ (s.table.lotCloses.filter (fun r => r.lot != 6)).length ∧ 1 ≤ s.rem 101 ∧ s.rem 180 ≤ s.cfg.depth)
    ∧ (afterSlip.table.lotCloses.filter (fun r => r.lot != 6) = [⟨1, 99⟩] ++ ⟨2, 102⟩ :: [⟨3, 102⟩, ⟨4, 104⟩]
      ∧ (∀ x ∈ [(⟨1, 99⟩ : LotClose)], afterSlip.rem 102 < afterSlip.rem x.lastSlot)
      ∧ (∀ x ∈ [(⟨3, 102⟩ : LotClose), ⟨4, 104⟩], afterSlip.rem 102 ≤ afterSlip.rem x.lastSlot)) := by
  decide +kernel

/-- R68, R81: after a slip that the table has not yet taken, a LOT into the full list fires the record nearest by the
distances of now, the older of two for one slot, and joins at its place. -/
theorem test_nearest_after_a_slip :
    let t := after (.flightTableLot 6 103) afterSlip
    t.handed = [.closeLot 2] ∧ t.table.lotCloses = [⟨6, 103⟩, ⟨1, 99⟩, ⟨3, 102⟩, ⟨4, 104⟩] := by decide +kernel

/-- A station with one entry, for slot 110, in a state. -/
def oneEntry (st : EntryState) : State := withTable [⟨110, 4, 6, st⟩] (dropIn .active)

theorem witness_HeardClaimsAndYieldsMoveEntries :
    (∀ st ∈ [EntryState.unclaimed, .yielded, .tentative .a none none, .tentative .a (some .hold) none, .mine .a, .other 12,
        .released],
      (oneEntry st).loader.role = some .drop ∧ (oneEntry st).loader.mode = .active
      ∧ (oneEntry st).entry? 110 = some ⟨110, 4, 6, st⟩ ∧ (oneEntry st).entry? 111 = none)
    ∧ (oneEntry .unclaimed).stationId = 20
    ∧ (withQueue [queuedYield 5, queuedClaim 110] (oneEntry (.tentative .a none none))).bus.queue
      = [queuedYield 5] ++ queuedClaim 110 :: []
    ∧ claimSlot (queuedClaim 110).frame.body = some 110 ∧ claimSlot (queuedYield 5).frame.body ≠ some 110
    ∧ (sendingFrame (oneEntry (.tentative .a none none)) (queuedClaim 110).frame).bus.sending = some (queuedClaim 110).frame
    ∧ (∀ q ∈ (sendingFrame (oneEntry (.tentative .a none none)) (queuedClaim 110).frame).bus.queue,
      claimSlot q.frame.body ≠ some 110) := by decide +kernel

/-- At slot 101: entries at the pass, at the deadline with a CLAIM queued, contended, sent, spoiled and untaken, and
ended, one at distance D and one beyond it. -/
def passing : State :=
  { withQueue [queuedClaim 102, contended (queuedClaim 103)]
      (withTable [⟨101, 4, 6, .mine .a⟩, ⟨102, 4, 6, .tentative .a none none⟩, ⟨103, 4, 6, .tentative .a none none⟩,
        ⟨104, 4, 6, .tentative .b none none⟩, ⟨105, 4, 6, .tentative .a none none⟩, ⟨181, 4, 6, .other 9⟩,
        ⟨182, 4, 6, .tentative .a none none⟩] (dropIn .active)) with
    handed := [.claimOutcome 104 .spoiled] }

theorem witness_CarrierArrivalPassesEntries :
    passing.loader.role = some .drop ∧ passing.loader.mode = .active
    ∧ (passing.table.entries.map (fun e => e.slot)).Nodup ∧ passing.queueSound
    ∧ passing.remAt 101 101 = 0 ∧ passing.remAt 101 104 = passing.cfg.claimHorizon ∧ passing.remAt 101 181 = passing.cfg.depth
    ∧ passing.cfg.depth < passing.remAt 101 182
    ∧ passing.claimPlace 102 = .queued ∧ passing.claimPlace 103 = .contended ∧ passing.claimPlace 104 = .transmitted
    ∧ passing.claimPlace 105 = .ended := by unfold State.queueSound; decide +kernel

/-- R77, R79: the pass and the deadline at an ordinary arrival; a slip to slot 101 takes the entry beyond D too. -/
theorem test_passing :
    (let t := after (.flightTableCarrierArrival ⟨101, 22500, false⟩) passing;
      t.handed = [.claimOutcome 104 .spoiled, .releaseHandover 101 .a 22500, .returnCount .a]
      ∧ t.table.entries.take 3 = [⟨102, 4, 6, .unclaimed⟩,
        ⟨103, 4, 6, .tentative .a none (some ⟨.unclaimed, none⟩)⟩, ⟨104, 4, 6, .tentative .b none none⟩]
      ∧ t.bus.queue = [{ contended (queuedClaim 103) with heldEvent := some .removed }])
    ∧ (let t := after (.flightTableCarrierArrival ⟨101, 22500, true⟩) passing;
      t.handed = [.claimOutcome 104 .spoiled, .miss .a, .yieldRequest 101 .void, .returnCount .a, .returnCount .a]
      ∧ t.counter .claimsWithdrawn = 2) := by decide +kernel

theorem witness_HoldAndClearGiveStemsBack :
    ((dropIn .announcing).loader.mode = .announcing ∧ (dropIn .announcing).engine.holdFilter ≠ .stopped
      ∧ (dropIn .announcing).engine.held = false)
    ∧ (passing.engine.holdFilter ≠ .stopped ∧ passing.engine.held = false ∧ passing.loader.mode = .active
      ∧ (passing.table.entries.map (fun e => e.slot)).Nodup ∧ passing.queueSound)
    ∧ (let s := withCradles { openCradle .sealed 0 1 1 with pending := .void } Cradle.emptyRecord passing;
      (s.cradle .a).state = .sealed ∧ (s.cradle .a).pending = .void ∧ s.queueSound
      ∧ (s.table.entries.map (fun e => e.slot)).Nodup)
    ∧ (passing.cradle .a).state ≠ .sealed := by unfold State.queueSound; decide +kernel

/-- R105: a hold between an own spoil and its outcome lets the outcome decide: RELEASED, and no second CLAIM. -/
theorem test_hold_after_spoil :
    let s := sendingFrame (withTable [⟨110, 4, 6, .tentative .a none none⟩] (dropIn .active)) (queuedClaim 110).frame
    let held := after .holdAssertion (after .spoil s)
    held.table.entries = [⟨110, 4, 6, .tentative .a (some .hold) none⟩]
      ∧ (after (.claimOutcome 110 .spoiled) held).table.entries = [⟨110, 4, 6, .released⟩] := by decide +kernel

/-- R131: a clear notice at a cradle bound afresh withdraws nothing; at one SEALED and VOID it gives back. -/
theorem test_clear_notice :
    (let s := withCradles (openCradle .opened 0 0 1) Cradle.emptyRecord passing;
      after (.clearNoticeFlightTable .a) s = s)
    ∧ (let s := withCradles { openCradle .sealed 0 1 1 with pending := .void } Cradle.emptyRecord passing;
      (after (.clearNoticeFlightTable .a) s).table.entries.take 3 = [⟨101, 4, 6, .released⟩, ⟨102, 4, 6, .unclaimed⟩,
        ⟨103, 4, 6, .tentative .a none (some ⟨.unclaimed, some .void⟩)⟩]) := by decide +kernel

theorem witness_ClaimOutcomeWithdrawsTheEntry :
    (∀ w ∈ [none, some (⟨.other 12, none⟩ : Withdrawal)],
      let s := oneEntry (.tentative .a none w)
      s.entry? 110 = some ⟨110, 4, 6, .tentative .a none w⟩ ∧ s.loader.role = some .drop ∧ s.loader.mode = .active
      ∧ .claimOutcome 110 .spoiled ∉ s.handed ∧ (oneEntry .released).entry? 9 = none)
    ∧ (let s := { oneEntry (.tentative .a none none) with handed := [.claimOutcome 110 .expired] };
      .claimOutcome 110 .expired ∈ s.handed ∧ (∀ q ∈ s.bus.queue, claimSlot q.frame.body ≠ some 110) ∧ s.bus.sending = none
      ∧ ∀ i ∈ s.handed.erase (.claimOutcome 110 .expired), isOwnEnd s.stationId 110 i ≠ true)
    ∧ (let s := withQueue [queuedClaim 110]
        { oneEntry (.tentative .a none none) with handed := [.claimOutcome 110 .removed] };
      .claimOutcome 110 .removed ∈ s.handed ∧ ∃ q ∈ s.bus.queue, claimSlot q.frame.body = some 110) := by decide +kernel

theorem witness_FlightTableKeepsSlotsApart :
    (waiting (oneEntry (.mine .a))).tableSound ∧ ∃ t, step (waiting (oneEntry (.mine .a))) = .next t :=
  ⟨by unfold State.tableSound; decide +kernel, _, rfl⟩

/-! #### Claiming -/

/-- A station with a held flag and a hold filter. -/
def holdIn (m : Mode) (held : Bool) (f : HoldFilter) : State := { dropIn m with engine := ⟨held, f⟩ }

theorem witness_ClaimEngineArrivalsAndHold :
    ((dropIn .active).loader.mode = .active ∧ (dropIn .announcing).loader.mode = .announcing
      ∧ (dropIn .active).loader.role = some .drop)
    ∧ (∀ n ∈ [0, 1999, 2000], (holdIn .active true (.changing n)).dropLoaded
      ∧ (holdIn .active true (.changing n)).engine.holdFilter = .changing n
      ∧ (holdIn .active true (.changing n)).engine.holdFilter ≠ .stopped
      ∧ false ≠ (holdIn .active true (.changing n)).engine.held ∧ true = (holdIn .active true (.changing n)).engine.held)
    ∧ ((holdIn .halted true .steady).loader.mode = .halted ∧ (holdIn .halted true .steady).engine.holdFilter ≠ .stopped
      ∧ (holdIn .halted true .steady).engine.held = true)
    ∧ (gaugeIn .active).loader.role = some .gauge := by decide +kernel

/-- One claimable entry for slot 104, with cradles A and B. -/
def oneClaim (a b : Cradle) : State := withTable [⟨104, 4, 6, .unclaimed⟩] (withCradles a b (dropIn .active))

theorem witness_PassClaimsACandidate :
    ((dropIn .announcing).loader.mode ≠ .active ∧ (holdIn .active true .steady).engine.held = true)
    ∧ (∀ placed ∈ [1, 9],
      let s := oneClaim (openCradle .opened placed 0 0) Cradle.emptyRecord
      s.loader.mode = .active ∧ s.engine.held = false ∧ s.flag .txFault = false ∧ s.tracker.state = .tracking
      ∧ s.entry? 104 = some ⟨104, 4, 6, .unclaimed⟩
      ∧ s.cfg.services.find? (fun x => x.cls == 4) = some ⟨4, 10, 3, false⟩
      ∧ s.cfg.claimHorizon < s.rem 104 ∧ s.rem 104 ≤ s.cfg.depth ∧ s.bus.queue.length < 16
      ∧ (s.cradle .a).state = .opened ∧ (s.cradle .a).pending = .none ∧ (s.cradle .a).binding = some ⟨4, 6⟩
      ∧ (s.cradle .a).placed + (s.cradle .a).won + (s.cradle .a).tentative = placed)
    ∧ (let s := withQueue [queuedClaim 104] (oneClaim (openCradle .opened 1 0 0) Cradle.emptyRecord);
      ∃ q ∈ s.bus.queue, claimSlot q.frame.body = some 104)
    ∧ (let s := withTable [⟨180, 2, 6, .yielded⟩] (dropIn .active);
      s.cradles.a = { Cradle.emptyRecord with uncertain := false } ∧ s.rem 180 = s.cfg.depth ∧ s.rem 113 = 3 + 10
      ∧ s.cfg.services.find? (fun x => x.cls == 2) = some ⟨2, 8, 2, true⟩
      ∧ s.cfg.claimHorizon + s.cfg.secondaryDepth < s.rem 114)
    ∧ (dropIn .active).rem 103 = (dropIn .active).cfg.claimHorizon ∧ (dropIn .active).entry? 104 = none
    ∧ (dropIn .active).cfg.depth < (dropIn .active).rem 181 ∧ (∀ x ∈ (dropIn .active).cfg.services, x.cls ≠ 5) := by
  decide +kernel

/-- R96: A and B, the greater sum first, A at a tie; and an EMPTY cradle with none of the class. -/
theorem witness_ChosenCradles :
    (oneClaim (openCradle .opened 2 0 0) (openCradle .opened 1 1 0)).isChosen 4 6 10 .a
    ∧ (oneClaim (openCradle .opened 2 0 0) (openCradle .opened 1 1 1)).isChosen 4 6 10 .b
    ∧ (oneClaim (openCradle .opened 10 0 0) Cradle.emptyRecord).isChosen 4 6 10 .b
    ∧ (∀ c, ¬ (oneClaim (openCradle .opened 10 0 0) (openCradle .sealed 1 0 0)).isChosen 4 6 10 c) := by
  refine ⟨?_, ?_, ?_, fun c => ?_⟩ <;> (try cases c) <;> unfold State.isChosen State.hasRoomFor <;> decide +kernel

/-- R98 (Gf 1): a MINE stem of the other cradle in the next carrier shuts the flap gap, one two carriers off leaves
it open. -/
theorem witness_FlapGap :
    ¬ (withTable [⟨105, 4, 6, .mine .b⟩] (dropIn .active)).gapFree 104 .a
    ∧ (withTable [⟨106, 4, 6, .mine .b⟩] (dropIn .active)).gapFree 104 .a := by
  constructor
  · rintro (h | h)
    · exact absurd h (by decide +kernel)
    · exact h 105 (.inl ⟨_, List.mem_singleton_self _, rfl, .inl rfl⟩) (by unfold State.tooClose; decide +kernel)
  · refine .inr fun x hx => ?_
    have e : x = 106 := by
      rcases hx with ⟨e, he, rfl, -⟩ | ⟨r, hr, -⟩ | ⟨w, r, hw, -⟩ | ⟨p, hp⟩
      · rw [List.mem_singleton.mp he]
      · cases hr
      · cases hw
      · cases hp
    subst e
    unfold State.tooClose; decide +kernel

/-! #### Cradles -/

theorem witness_CountOperationsAreJudgedByTheRows :
    (∀ k ∈ [openCradle .sealed 0 1 1, { openCradle .sealed 3 1 1 with pending := .close },
        { openCradle .sealed 0 1 1 with pending := .void }, openCradle .opened 1 1 1, openCradle .sealed 8 1 1,
        { openCradle .opened 1 1 1 with idleDue := true }],
      let s := withCradles k Cradle.emptyRecord (dropIn .active)
      s.dropLoaded ∧ k = s.cradle .a ∧ (k.state = .opened ∨ k.state = .sealed) ∧ s.bunchSize k = 10 ∧ 0 < k.tentative ∧ 0 < k.won)
    ∧ (let s := withCradles Cradle.emptyRecord (openCradle .sealed 9 1 0) (dropIn .active);
      s.bunchSize (s.cradle .b) = 10 ∧ 0 < (s.cradle .b).won ∧ (s.cradle .b).placed + 1 = 10) := by decide +kernel

/-- A cradle bound to a class and lot, whose entry to READY gives its tie command. -/
theorem witness_ReadyAndEmptyEntries :
    let s := withCradles (openCradle .opened 3 0 0) Cradle.emptyRecord (dropIn .active)
    s.cradle .a = openCradle .opened 3 0 0 ∧ (s.cradle .a).binding = some ⟨4, 6⟩ := by decide +kernel

/-- A station with cradle A in a record and cradle B in another. -/
def two (a b : Cradle) : State := withCradles a b (dropIn .active)

/-- Both cradles OPEN and one arrival short of the idle limit, one of them above its short minimum. -/
def atIdleLimit : State :=
  two { openCradle .opened 3 0 0 with idleCount := 39 }
    { openCradle .opened 2 0 0 with idleCount := 39, binding := some ⟨4, 7⟩ }

/-- Both cradles OPEN with the due mark set. -/
def bothDue : State :=
  two { openCradle .opened 3 0 0 with idleCount := 40, idleDue := true }
    { openCradle .opened 3 0 0 with idleCount := 40, idleDue := true, binding := some ⟨4, 7⟩ }

/-- R119, R121, R122, R124: both cradles judged at one arrival, A READY at its short minimum and B stale below it; a hold
release closes A, then B, so that A takes the lower bunch number; a lot closes an OPEN cradle and marks a SEALED one. -/
theorem test_two_cradles_close :
    (let t := after (.cradleCarrierArrival ⟨100, 22500, false⟩) atIdleLimit;
      (t.cradle .a).state = .ready ∧ (t.cradle .b).state = .opened ∧ (t.cradle .b).stale = true
      ∧ t.cradles.tieQueue = [.a] ∧ t.flag .stale = true)
    ∧ (let t := after (.holdNoticeCradle false) bothDue;
      t.cradles.tieQueue = [.a, .b]
      ∧ ((t.cradle .b).bunch.getD 0).toNat = ((t.cradle .a).bunch.getD 0).toNat + 1)
    ∧ (let t := after (.closeLot 6) (two (openCradle .opened 2 0 0) (openCradle .sealed 2 1 0));
      (t.cradle .a).state = .ready ∧ (t.cradle .b).state = .sealed ∧ (t.cradle .b).pending = .close) := by decide +kernel

theorem witness_CradlesCloseByIdleLotAndHold :
    (let s := two { openCradle .opened 3 0 0 with idleCount := 39 } Cradle.emptyRecord;
      s.loader.role = some .drop ∧ s.loader.mode = .active ∧ (s.cradle .a).state = .opened ∧ s.cradles.held = false
      ∧ (s.cradle (otherCradle .a)).state ≠ .opened ∧ min ((s.cradle .a).idleCount + 1) 4095 = s.cfg.idleLimit
      ∧ (s.cradle .a).idleCount < s.cfg.idleLimit ∧ s.shortMinimum (s.cradle .a) ≤ (s.cradle .a).placed)
    ∧ (let s := two { openCradle .opened 2 0 0 with idleCount := 4095, idleDue := true } Cradle.emptyRecord;
      min ((s.cradle .a).idleCount + 1) 4095 ≠ s.cfg.idleLimit ∧ (s.cradle .a).placed < s.shortMinimum (s.cradle .a)
      ∧ (s.cradle .a).idleDue = true)
    ∧ (let s := two (openCradle .opened 2 1 0) (openCradle .opened 1 0 0);
      (s.cradle .a).binding = some ⟨4, 6⟩ ∧ (s.cradle .a).won ≠ 0)
    ∧ (let s := two (openCradle .sealed 2 1 0) { openCradle .opened 1 0 0 with binding := some ⟨4, 7⟩ };
      (s.cradle .a).state = .sealed ∧ (s.cradle .a).pending = .none ∧ (s.cradle (otherCradle .a)).binding = some ⟨4, 7⟩)
    ∧ (let s := two (openCradle .opened 2 0 0) (openCradle .opened 1 0 0);
      ∀ c ∈ [CradleId.a, .b], (s.cradle c).state = .opened ∧ (s.cradle c).won = 0 ∧ (s.cradle c).tentative = 0
        ∧ (s.cradle c).binding = some ⟨4, 6⟩)
    ∧ (let s := atIdleLimit;
      s.loader.role = some .drop ∧ s.loader.mode = .active ∧ s.cradles.held = false
      ∧ ∀ c ∈ [CradleId.a, .b], (s.cradle c).state = .opened ∧ min ((s.cradle c).idleCount + 1) 4095 = s.cfg.idleLimit
        ∧ (s.cradle c).idleCount < s.cfg.idleLimit ∧ (s.cradle c).won = 0 ∧ (s.cradle c).tentative = 0)
    ∧ (bothDue.loader.role = some .drop ∧ bothDue.loader.mode = .active
      ∧ ∀ c ∈ [CradleId.a, .b], (bothDue.cradle c).state = .opened ∧ (bothDue.cradle c).idleDue = true
        ∧ (bothDue.cradle c).won = 0 ∧ (bothDue.cradle c).tentative = 0) := by decide +kernel

theorem witness_ClearIsTakenByTheCradleState :
    (∀ k ∈ [Cradle.emptyRecord, openCradle .tying 3 0 0, { openCradle .sealed 0 1 0 with pending := .void },
        openCradle .faulted 3 0 0, openCradle .opened 3 1 0, openCradle .opened 3 0 0, { openCradle .sealed 3 1 0 with pending := .close }],
      (two k Cradle.emptyRecord).dropLoaded ∧ ((two k Cradle.emptyRecord).clearFilter .a).admitsEdge = true
      ∧ k = (two k Cradle.emptyRecord).cradle .a)
    ∧ (let s := withTieQueue [.a, .b] (two (openCradle .ready 3 0 0) (openCradle .ready 10 0 0));
      (s.cradle .a).state = .ready ∧ s.cradles.tieQueue.head? = some .a
      ∧ (s.cradles.tieQueue.filter (fun d => d != .a)).head? = some .b ∧ (s.cradle .b).state = .ready
      ∧ s.cradles.tieQueue.head? ≠ some .b) := by decide +kernel

theorem witness_TieResultAndUncertainMark :
    (dropIn .halted).dropLoaded ∧ ((dropIn .halted).cradle .a).state ≠ .tying
    ∧ (let s := withTieQueue [.a, .b] (two (openCradle .tying 3 0 0) (openCradle .ready 10 0 0));
      (s.cradle .a).state = .tying ∧ (s.cradles.tieQueue.filter (fun d => d != .a)).head? = some .b
      ∧ (s.cradle .b).state = .ready)
    ∧ (let s := withTieQueue [.a] (two (openCradle .tying 3 0 0) Cradle.emptyRecord);
      (s.cradles.tieQueue.filter (fun d => d != .a)).head? = none) := by decide +kernel

theorem witness_TieQueueHoldsReadyAndTying :
    let s := waiting (withTieQueue [.b, .a] (two (openCradle .ready 3 0 0) (openCradle .tying 10 0 0)))
    s.tieQueueSound ∧ ∃ t, step s = .next t := by
  refine ⟨⟨by decide +kernel, ?_, ?_⟩, _, rfl⟩ <;> intro c <;> cases c <;> decide +kernel

theorem witness_CradleSumsStayWithinTheBunch :
    let s := waiting (two (openCradle .sealed 8 1 1) (openCradle .opened 1 0 0))
    s.cradlesSound ∧ ∃ t, step s = .next t := by
  refine ⟨⟨fun h => absurd h (by decide +kernel), ?_, ?_⟩, _, rfl⟩
  · unfold State.servicesSound; decide +kernel
  · intro c; cases c <;> decide +kernel

/-! #### Releases -/

/-- A record for a cradle in DELAY. -/
def delayedFor (c : CradleId) : ReleaseRecord := ⟨100, c, 22500, 4000, .delay, false⟩
def pulsing : ReleaseRecord := ⟨99, .a, 22500, 4000, .window, false⟩

/-- A station with a release unit. -/
def releasing (r : ReleaseUnit) : State := { dropIn .active with release := r }

theorem witness_HandoverAndCarrierStep :
    ((dropIn .active).loader.role = some .drop ∧ (dropIn .active).release.rel = false
      ∧ (dropIn .active).release.delayed = none ∧ (dropIn .active).release.held = false
      ∧ ((dropIn .active).cradle .a).state ≠ .sealed
      ∧ (dropIn .active).cfg.releaseGuard + 5119 * (dropIn .active).cfg.releaseFraction / 256
        + (dropIn .active).cfg.pulseMinimum = 5119
      ∧ 5118 < (dropIn .active).cfg.releaseGuard + 5118 * (dropIn .active).cfg.releaseFraction / 256
        + (dropIn .active).cfg.pulseMinimum)
    ∧ (releasing { ReleaseUnit.reset with held := true }).release.held = true
    ∧ (two { openCradle .sealed 0 1 0 with pending := .void } Cradle.emptyRecord).release.held = false
    ∧ (∀ outstanding ∈ [[], [Instr.releaseCarrierStep ⟨101, 22500, false⟩, .releaseHandover 101 .a 22500]],
      let s := { releasing { ReleaseUnit.reset with
          delayed := some (delayedFor .b), delayTimer := some 7, rel := true, pulseTimer := some 400
          window := some ⟨.a, 5, 0, some pulsing⟩, lastStep := some 100 } with handed := outstanding }
      s.loader.mode = .active ∧ s.release.lastStep = some 100 ∧ s.release.lastStep ≠ some 101 ∧ s.handed = outstanding)
    ∧ (dropIn .halted).loader.mode = .halted := by decide +kernel

theorem witness_PulseWindowAndFlapTimers :
    (let s := releasing { ReleaseUnit.reset with
        delayed := some (delayedFor .a), delayTimer := some 0, window := some ⟨.a, 5, 0, some pulsing⟩ };
      s.dropLoaded ∧ s.release.delayed = some (delayedFor .a) ∧ s.release.flap = (delayedFor .a).cradle ∧ s.release.settle = none)
    ∧ (let s := releasing { ReleaseUnit.reset with delayed := some (delayedFor .b), delayTimer := some 0, settle := some 1 };
      s.release.flap ≠ (delayedFor .b).cradle ∧ s.release.settle ≠ none)
    ∧ (let s := releasing { ReleaseUnit.reset with
        rel := true, pulseTimer := some 0, window := some ⟨.a, 0, 0, some pulsing⟩, delayed := some (delayedFor .b) };
      s.release.rel = true ∧ s.release.window = some ⟨.a, 0, 0, some pulsing⟩ ∧ s.release.delayed = some (delayedFor .b)) := by
  decide +kernel

theorem witness_GateEdgesAreJudged :
    ((dropIn .halted).dropLoaded ∧ (dropIn .halted).tracker.gateFilter.admitsEdge = true ∧ (dropIn .halted).loader.mode = .halted)
    ∧ ((dropIn .announcing).dropLoaded ∧ (dropIn .announcing).release.window = none)
    ∧ (∀ cleared ∈ [false, true],
      let s := releasing { ReleaseUnit.reset with window := some ⟨.a, 5, 0, some { pulsing with cleared := cleared }⟩ }
      s.release.window = some ⟨.a, 5, 0, some { pulsing with cleared := cleared }⟩)
    ∧ (releasing { ReleaseUnit.reset with window := some ⟨.a, 5, 1, none⟩ }).release.window = some ⟨.a, 5, 1, none⟩ := by
  decide +kernel

theorem witness_HoldAndClearReachReleases :
    (releasing { ReleaseUnit.reset with delayed := some (delayedFor .a) }).release.delayed = some (delayedFor .a)
    ∧ (delayedFor .a).cradle = .a ∧ (delayedFor .a).cradle ≠ .b ∧ (dropIn .active).release.delayed = none
    ∧ (dropIn .active).loader.mode = .active := by decide +kernel

theorem witness_ReleaseUnitStaysSound :
    let s := waiting (releasing { ReleaseUnit.reset with
      delayed := some (delayedFor .b), delayTimer := some 7, rel := true, pulseTimer := some 4000
      window := some ⟨.a, 5, 0, some pulsing⟩ })
    s.releaseSound ∧ ∃ t, step s = .next t := by
  refine ⟨⟨fun h => absurd h (by decide +kernel), ?_, ?_, ?_, ?_, ?_⟩, _, rfl⟩
  · intro w h; cases h; rfl
  · intro n h; cases h; decide +kernel
  · decide +kernel
  · intro r h; cases h; decide +kernel
  · decide +kernel

/-! #### Tying and status -/

/-- A station with a tie port. -/
def tyingIn (p : TiePort) (s : State) : State := { s with tie := p }
def record10 : TieRecord := ⟨.a, 4, 6, 10, 1, false, false⟩

theorem witness_TieStartsAndIsAcknowledged :
    (let s := withTieQueue [.a] (two { openCradle .ready 10 0 0 with bunch := some 1 } Cradle.emptyRecord);
      s.loader.mode = .active ∧ s.tie.phase = .idle ∧ s.tie.held = false ∧ s.cradles.tieQueue.head? = some .a
      ∧ (s.cradle .a).state = .ready ∧ (s.cradle .a).binding = some ⟨4, 6⟩ ∧ (s.cradle .a).bunch = some 1)
    ∧ (tyingIn { TiePort.reset with held := true } (dropIn .active)).tie.held = true
    ∧ (∀ ph ∈ [TiePhase.idle, .sending, .awaitAck, .tying, .reading], ∀ ab ∈ [false, true],
      (tyingIn { TiePort.reset with phase := ph, abortStep := ab } (dropIn .halted)).dropLoaded
      ∧ (tyingIn { TiePort.reset with phase := ph, abortStep := ab } (dropIn .halted)).tie.phase = ph)
    ∧ (∀ ab ∈ [false, true], ∀ last ∈ [none, some record10], ∀ m ∈ [Mode.active, .halted],
      let s := tyingIn { TiePort.reset with
        phase := .sending, abortStep := ab, current := some record10, lastRecord := last } (dropIn m)
      s.loader.role = some .drop ∧ s.loader.mode = m ∧ s.tie.phase = .sending ∧ s.tie.abortStep = ab
        ∧ s.tie.current = some record10 ∧ s.tie.lastRecord = last) := by decide +kernel

/-- R154, R185: the TIE record of the worked sequence of 08 on TDAT, its first, sixth (of class 4) and last bit. -/
theorem test_tie_record_out :
    let s := tyingIn { TiePort.reset with phase := .sending, current := some record10 } (dropIn .active)
    s.tieRecordOut = some 0x04600A0001#40 ∧ s.tieDataOut 0 = some false ∧ s.tieDataOut 5 = some true
      ∧ s.tieDataOut 39 = some true := by decide +kernel

theorem witness_TieEndsWithAResult :
    (∀ ph ∈ [TiePhase.awaitAck, .tying, .reading],
      let s := tyingIn { TiePort.reset with phase := ph, current := some record10 }
        (withTieQueue [.a] (two (openCradle .tying 10 0 0) Cradle.emptyRecord))
      s.dropLoaded ∧ s.tie.current = some record10 ∧ s.tie.phase = ph ∧ s.tie.abortStep = false
      ∧ s.cradles.tieQueue.head? = some .a ∧ (s.cradle .a).state ≠ .ready)
    ∧ (0#2 ++ 4#6 ++ 0#4 ++ 3#4 : BitVec 16) = 0x0403#16 := by decide +kernel

theorem witness_SnapshotHoldsTheStatusRecord :
    (dropIn .active).loader.role = some .drop ∧ (gaugeIn .active).loader.role = some .gauge
    ∧ (dropIn .active).loader.id = some 20#6 ∧ (dropIn .active).loader.reason < 256
    ∧ (dropIn .active).tracker.slotHere = some 100 ∧ (dropIn .active).tracker.period < 16777216
    ∧ State.reset.tracker.slotHere = none := by decide +kernel

/-- R179: byte 0 of a drop station's record on SSDO, 0000 0010 with its most significant bit first, then byte 1, whose
least significant bit is bit 15. -/
theorem test_status_bits_out :
    let t := after .snapshot (dropIn .active)
    (List.range 8).map (fun n => t.statusDataOut n)
        = [some false, some false, some false, some false, some false, some false, some true, some false]
      ∧ t.statusDataOut 11 = some true ∧ t.statusDataOut 13 = some true ∧ t.statusDataOut 928 = some false := by
  decide +kernel

theorem witness_AckPressAndLamps :
    (dropIn .active).loaded ∧ (dropIn .active).status.ackFilter.admitsEdge = true ∧ (dropIn .active).loader.record ≠ none
    ∧ (dropIn .active).status.flash ≠ none ∧ (dropIn .halted).dropLoaded ∧ (gaugeIn .halted).gaugeLoaded
    ∧ State.reset.loader.mode = .loading := by decide +kernel

theorem witness_CountersNeverFall :
    Instr.stall ≠ .reset ∧ ∃ t, exec .stall (slow .tracking) = .next t :=
  ⟨by decide, _, rfl⟩

/-! ### The line and the memory bus -/

/-- R18: 0x20 is a dominant start bit, 0010 0000 with each 1 dominant, a recessive stop bit; it is read back. -/
theorem test_character_levels :
    characterLevels 0x20#8 = [true, false, false, true, false, false, false, false, false, false]
    ∧ readCharacter (characterLevels 0xA5#8) = some 0xA5#8
    ∧ readCharacter [true, false, false, true, false, false, false, false, false, true] = none := by decide +kernel

/-- R169: select code 0x54 with the direction in the least significant bit, the byte address 0, and the first half
clocks of an attempt: the start condition, then a 1 and a 0. -/
theorem test_memory_bus :
    addressItems = [.start, .send 0xA8#8, .send 0x00#8, .repeatedStart, .send 0xA9#8]
    ∧ (attemptLevels none).take 6 = [⟨true, true⟩, ⟨true, false⟩, ⟨false, true⟩, ⟨true, true⟩, ⟨false, false⟩, ⟨true, false⟩]
    ∧ (attemptItems none).length = 134 ∧ attemptItems (some .address) = [.start, .send 0xA8#8, .send 0x00#8, .stop] := by
  decide +kernel

/-- R25: in HALTED a frame of bad content is counted and goes no further. -/
theorem test_halted_hears :
    let t := after (.frameHeard (frameBytes (plainFrame 12 (.yield 300 .hold)))) (dropIn .halted)
    t.counter .framesHeard = 1 ∧ t.counter .receiveErrors = 0 ∧ t.handed = [] := by decide +kernel

end Sys2Proof.Tests
end

section
/-! SUPPORT. Proofs of the statements on carrier tracking: the operations that leave loader and tracker alone, what a
step of another block leaves of the tracker's invariant, the tracker's own operations, the part's clock. -/

namespace Sys2Proof.Machine

variable {s t : State}

/-! ### Loader and tracker under the operations that walk a list -/

/-- A walk whose every stride leaves the loader and the tracker leaves them. -/
theorem foldl_loader_tracker {α : Type} (f : State → α → State)
    (hf : ∀ t a, (f t a).loader = t.loader ∧ (f t a).tracker = t.tracker) (l : List α) (s : State) :
    (l.foldl f s).loader = s.loader ∧ (l.foldl f s).tracker = s.tracker :=
  foldl_keeps (fun t => t.loader = s.loader ∧ t.tracker = s.tracker) f
    (fun t a ⟨hl, ht⟩ => ⟨(hf t a).1.trans hl, (hf t a).2.trans ht⟩) l s ⟨rfl, rfl⟩

@[simp] theorem State.takeCarrierNotice_loader_tracker (x : Slot) :
    (s.takeCarrierNotice x).loader = s.loader ∧ (s.takeCarrierNotice x).tracker = s.tracker :=
  foldl_loader_tracker _ (by simp) _ _

theorem State.loader_tracker_of_offer {f : Frame} {answer : OfferAnswer} (h : s.offer f = (answer, t)) :
    t.loader = s.loader ∧ t.tracker = s.tracker := by
  have hframe := s.offer_frame f
  rw [h] at hframe
  obtain ⟨-, hloader, htracker, -⟩ := hframe
  exact ⟨hloader, htracker⟩

theorem State.loader_tracker_of_requestRemoval {b : FrameBody} {answer : RemovalAnswer}
    (h : s.requestRemoval b = (answer, t)) : t.loader = s.loader ∧ t.tracker = s.tracker := by
  have hframe := s.requestRemoval_frame b
  rw [h] at hframe
  obtain ⟨-, hloader, htracker, -⟩ := hframe
  exact ⟨hloader, htracker⟩

@[simp] theorem State.claim_loader_tracker (e : FlightEntry) (service : ServiceEntry) (c : CradleId) :
    (s.claim e service c).loader = s.loader ∧ (s.claim e service c).tracker = s.tracker := by
  unfold State.claim
  dsimp only
  split <;> next answer => simp [State.loader_tracker_of_offer answer]

@[simp] theorem State.judgeEntry_loader_tracker (x : Slot) :
    (s.judgeEntry x).loader = s.loader ∧ (s.judgeEntry x).tracker = s.tracker := by
  unfold State.judgeEntry
  (repeat' split) <;> simp

@[simp] theorem State.runPass_loader_tracker :
    s.runPass.loader = s.loader ∧ s.runPass.tracker = s.tracker :=
  foldl_loader_tracker _ (by simp) _ _

@[simp] theorem State.claimDeadlines_loader_tracker (x : Slot) :
    (s.claimDeadlines x).loader = s.loader ∧ (s.claimDeadlines x).tracker = s.tracker :=
  foldl_loader_tracker _ (by simp) _ _

@[simp] theorem State.ordinaryArrival_loader_tracker (a : Arrival) :
    (s.ordinaryArrival a).loader = s.loader ∧ (s.ordinaryArrival a).tracker = s.tracker := by
  simp [State.ordinaryArrival, foldl_loader_tracker]

@[simp] theorem State.slipArrival_loader_tracker (a : Arrival) :
    (s.slipArrival a).loader = s.loader ∧ (s.slipArrival a).tracker = s.tracker := by
  simp [State.slipArrival, State.replace, foldl_loader_tracker]

@[simp] theorem State.giveBackAll_loader_tracker (r : YieldReason) :
    (s.giveBackAll r).loader = s.loader ∧ (s.giveBackAll r).tracker = s.tracker :=
  foldl_loader_tracker _ (by simp) _ _

@[simp] theorem State.giveBackCradle_loader_tracker (c : CradleId) :
    (s.giveBackCradle c).loader = s.loader ∧ (s.giveBackCradle c).tracker = s.tracker :=
  foldl_loader_tracker _ (by simp) _ _

@[simp] theorem State.workWatch_loader_tracker (x : Slot) :
    (s.workWatch x).loader = s.loader ∧ (s.workWatch x).tracker = s.tracker :=
  foldl_loader_tracker _ (by simp) _ _

@[simp] theorem State.noteCut_loader_tracker (l : List (Option ScanResult)) :
    (s.noteCut l).loader = s.loader ∧ (s.noteCut l).tracker = s.tracker :=
  foldl_loader_tracker _ (fun t r => by split <;> simp) _ _

@[simp] theorem State.cutWindow_loader_tracker :
    s.cutWindow.loader = s.loader ∧ s.cutWindow.tracker = s.tracker := by
  unfold State.cutWindow
  split <;> simp

@[simp] theorem State.openMeasure_loader_tracker (a : Arrival) :
    (s.openMeasure a).loader = s.loader ∧ (s.openMeasure a).tracker = s.tracker := ⟨rfl, rfl⟩

@[simp] theorem State.cancelCleared_loader_tracker (c : CradleId) :
    (s.cancelCleared c).loader = s.loader ∧ (s.cancelCleared c).tracker = s.tracker := by
  unfold State.cancelCleared
  (repeat' split) <;> simp

@[simp] theorem State.takeModeNotice_loader_tracker (b : Block) (held : Bool) :
    (s.takeModeNotice b held).loader = s.loader ∧ (s.takeModeNotice b held).tracker = s.tracker := by
  cases b <;> simp [State.takeModeNotice]

@[simp] theorem State.takeHaltNotice_loader_tracker (b : Block) (held : Bool) :
    (s.takeHaltNotice b held).loader = s.loader ∧ (s.takeHaltNotice b held).tracker = s.tracker := by
  cases b <;> simp [State.takeHaltNotice]

end Sys2Proof.Machine
end

section
namespace Sys2Proof.Machine

variable {s t u : State}

/-! ### Loaded stations -/

/-- The five modes: a station that is not past loading is in LOADING or CONFIG_FAULT. -/
theorem State.not_loaded_iff : ¬ s.loaded ↔ s.loader.mode = .loading ∨ s.loader.mode = .configFault := by
  cases h : s.loader.mode <;> simp [h]

theorem State.loaded_of_dropActive (h : s.dropActive) : s.loaded := .inr (.inl h.2)

theorem State.loaded_of_gaugeActive (h : s.gaugeActive) : s.loaded := .inr (.inl h.2)

theorem State.loaded_of_offersAccepted (h : s.offersAccepted) : s.loaded := h.elim .inl (.inr ∘ .inl)

theorem State.loaded_of_dropStarted (h : s.dropStarted) : s.loaded := .inr h.2

theorem State.cfg_of_record {cfg : StationConfig} (h : s.loader.record = some cfg) : s.cfg = cfg := by
  simp [State.cfg, h]

theorem State.cfg_of_record_eq (h : t.loader.record = s.loader.record) : t.cfg = s.cfg := by
  simp [State.cfg, h]

/-! ### Blocks at their reset values -/

theorem State.blocksAtReset.tracker_eq (h : s.blocksAtReset) : s.tracker = Tracker.reset := h.1

theorem State.blocksAtReset.bus_stopped (h : s.blocksAtReset) : s.bus.state = .stopped := by
  obtain ⟨-, hbus, -⟩ := h
  rw [hbus, LineBus.reset]

theorem State.blocksAtReset.flash_none (h : s.blocksAtReset) : s.status.flash = none := by
  obtain ⟨-, -, -, -, -, -, -, -, -, -, -, hflash, -⟩ := h
  exact hflash

/-- R5: every width filter is stopped. -/
theorem State.blocksAtReset.filter_stopped (h : s.blocksAtReset) (i : FilteredInput) : s.filter i = .stopped := by
  obtain ⟨htracker, -, hgauge, -, -, hcradles, -, -, -, -, hack, -, -⟩ := h
  cases i with
  | cp | gate => simp [State.filter, htracker, Tracker.reset]
  | lot => simp [State.filter, hgauge, GaugeUnit.reset]
  | clrA | clrB => simp [State.filter, hcradles, CradleManager.reset]
  | ack => exact hack

/-! ### Width filters -/

@[simp] theorem State.filter_setFilter (i : FilteredInput) (f : Filter) : (s.setFilter i f).filter i = f := by
  cases i <;> rfl

@[simp] theorem State.setFilter_setFilter (i : FilteredInput) (f g : Filter) :
    (s.setFilter i f).setFilter i g = s.setFilter i g := by
  cases i <;> rfl

@[simp] theorem State.setFilter_filter (i : FilteredInput) : s.setFilter i (s.filter i) = s := by
  cases i <;> rfl

@[simp] theorem State.filter_setPin (i j : FilteredInput) (v : Bool) : (s.setPin i v).filter j = s.filter j := by
  cases j <;> rfl

@[simp] theorem State.filter_bump (n : CounterName) (j : FilteredInput) : (s.bump n).filter j = s.filter j := by
  cases j <;> rfl

@[simp] theorem State.filter_countGlitch (i j : FilteredInput) : (s.countGlitch i).filter j = s.filter j := by
  unfold State.countGlitch
  split <;> simp

/-- Nothing of the tracker but a filter hangs on a filter. -/
theorem State.setFilter_tracker (i : FilteredInput) (f : Filter) :
    (s.setFilter i f).tracker = { s.tracker with
      cpFilter := (s.setFilter i f).tracker.cpFilter, gateFilter := (s.setFilter i f).tracker.gateFilter } := by
  cases i <;> rfl

/-! ### Steps that are not the tracker's business -/

/-- A step that neither loads nor unloads the station, keeps the record in use, and moves nothing of the
tracker but its two width filters; before the end of loading it leaves every block at its reset values. -/
structure State.Undisturbed (s t : State) : Prop where
  loaded : t.loaded ↔ s.loaded
  record : t.loader.record = s.loader.record
  tracker : t.tracker = { s.tracker with cpFilter := t.tracker.cpFilter, gateFilter := t.tracker.gateFilter }
  idle : ¬ s.loaded → s.blocksAtReset → t.blocksAtReset

namespace State.Undisturbed

theorem refl (s : State) : s.Undisturbed s := ⟨Iff.rfl, rfl, rfl, fun _ h => h⟩

theorem trans (hst : s.Undisturbed t) (htu : t.Undisturbed u) : s.Undisturbed u where
  loaded := htu.loaded.trans hst.loaded
  record := htu.record.trans hst.record
  tracker := by rw [htu.tracker, hst.tracker]
  idle hs hr := htu.idle (mt hst.loaded.mp hs) (hst.idle hs hr)

/-- A step that leaves mode and record alone and touches none of the blocks. -/
theorem of_idle (hl : t.loader = s.loader) (ht : t.tracker = s.tracker) (hr : s.blocksAtReset → t.blocksAtReset) :
    s.Undisturbed t where
  loaded := by rw [State.loaded, hl]
  record := by rw [hl]
  tracker := by rw [ht]
  idle _ := hr

/-- A step that leaves loader and tracker alone, in a state in which some block has left its reset values or
the station is past loading. -/
theorem of_same (hb : s.blocksAtReset → s.loaded) (h : t.loader = s.loader ∧ t.tracker = s.tracker) :
    s.Undisturbed t where
  loaded := by rw [State.loaded, h.1]
  record := by rw [h.1]
  tracker := by rw [h.2]
  idle hs hr := absurd (hb hr) hs

theorem of_loaded (hs : s.loaded) (h : t.loader = s.loader ∧ t.tracker = s.tracker) : s.Undisturbed t :=
  of_same (fun _ => hs) h

/-- On a bus that has left STOPPED. -/
theorem of_busRunning (hs : s.bus.state ≠ .stopped) (h : t.loader = s.loader ∧ t.tracker = s.tracker) :
    s.Undisturbed t :=
  of_same (fun hr => absurd hr.bus_stopped hs) h

/-- Taking a hand-over. -/
theorem taken (i : Instr) : s.Undisturbed (s.taken i) := ⟨Iff.rfl, rfl, rfl, fun _ h => h⟩

theorem guarded {p : Prop} [Decidable p] {a b : State} (ha : p → s.Undisturbed a) (hb : s.Undisturbed b) :
    s.Undisturbed (if p then a else b) := by
  split
  case isTrue hp => exact ha hp
  case isFalse => exact hb

/-- A hand-over taken by a block that works past loading only. -/
theorem taken_guarded {p : Prop} [Decidable p] {i : Instr} (hp : p → s.loaded)
    (h : p → t.loader = s.loader ∧ t.tracker = s.tracker) :
    s.Undisturbed (if p then t else s.taken i) :=
  guarded (fun hp' => of_loaded (hp hp') (h hp')) (taken i)

/-- A command of a block that works past loading only. -/
theorem loaded_guarded {p : Prop} [Decidable p] (hp : p → s.loaded)
    (h : p → t.loader = s.loader ∧ t.tracker = s.tracker) : s.Undisturbed (if p then t else s) :=
  guarded (fun hp' => of_loaded (hp hp') (h hp')) (refl s)

/-- A command of the line, which works once the bus has left STOPPED. -/
theorem bus_guarded {p : Prop} [Decidable p] (hp : p → s.bus.state ≠ .stopped)
    (h : p → t.loader = s.loader ∧ t.tracker = s.tracker) : s.Undisturbed (if p then t else s) :=
  guarded (fun hp' => of_busRunning (hp hp') (h hp')) (refl s)

/-- A filter at its stop stays there until loading ends; all else may happen to it. -/
theorem setFilter (i : FilteredInput) (f : Filter) (hf : s.filter i = .stopped → f = .stopped) :
    s.Undisturbed (s.setFilter i f) where
  loaded := by rw [State.loaded, setFilter_loader]
  record := by rw [setFilter_loader]
  tracker := s.setFilter_tracker i f
  idle _ hr := by
    have hstop := hr.filter_stopped i
    rwa [hf hstop, ← hstop, setFilter_filter]

theorem setPin (i : FilteredInput) (v : Bool) : s.Undisturbed (s.setPin i v) := of_idle rfl rfl id

theorem countGlitch (i : FilteredInput) : s.Undisturbed (s.countGlitch i) :=
  guarded (fun ⟨_, hq⟩ => of_same (fun hr => by simp [hr.filter_stopped, Filter.isQualifying] at hq) ⟨rfl, rfl⟩) (refl s)

theorem setMemory (m : MemoryRead) : s.Undisturbed (s.setMemory m) := ⟨Iff.rfl, rfl, rfl, fun _ h => h⟩

theorem readStraps (r : Bool) (i : BitVec 6) : s.Undisturbed (s.readStraps r i) := ⟨Iff.rfl, rfl, rfl, fun _ h => h⟩

/-- R170: CONFIG_FAULT leaves every block at its reset values but for the flag. -/
theorem failCheck (reason : Nat) (hs : ¬ s.loaded) : s.Undisturbed (s.failCheck reason) where
  loaded := iff_of_false (by simp [State.failCheck]) hs
  record := rfl
  tracker := rfl
  idle _ hr := by
    obtain ⟨htr, hbus, hg, htab, he, hc, hre, hti, hcount, hflag, hrest⟩ := hr
    exact ⟨htr, hbus, hg, htab, he, hc, hre, hti, hcount, fun f hf => (raise_flag_other _ hf).trans (hflag f hf), hrest⟩

theorem missAcknowledge (hs : ¬ s.loaded) : s.Undisturbed s.missAcknowledge := by
  unfold State.missAcknowledge
  split
  case h_1 => exact guarded (fun _ => setMemory _) (failCheck 1 hs)
  all_goals exact refl s

theorem retryRead : s.Undisturbed s.retryRead := by
  unfold State.retryRead
  split
  case h_1 => exact setMemory _
  all_goals exact refl s

/-- R175: ANNOUNCING and ACTIVE are both past loading. -/
theorem beginActive (is : List Instr) (hs : s.loader.mode = .announcing) :
    s.Undisturbed (({ s with loader := { s.loader with mode := .active, announce := none } }).handAll is) where
  loaded := iff_of_true (.inr (.inl rfl)) (.inl hs)
  record := rfl
  tracker := rfl
  idle hn := absurd (.inl hs) hn

/-- R176: a halt report takes a station from one mode past loading to another. -/
theorem haltReport (hs : s.loaded) : s.Undisturbed s.haltReport where
  loaded := iff_of_true (.inr (.inr rfl)) hs
  record := rfl
  tracker := rfl
  idle hn := absurd hs hn

theorem hearFrame (own : Bool) (f : Frame) (hs : s.bus.state ≠ .stopped) : s.Undisturbed (s.hearFrame own f) := by
  have hcount : s.Undisturbed (s.bump .framesHeard) := of_busRunning hs ⟨rfl, rfl⟩
  have hsame : ∀ t : State, t.loader = s.loader ∧ t.tracker = s.tracker → s.Undisturbed t := fun t => of_busRunning hs
  have hflag : ∀ n, s.offersAccepted → s.Undisturbed (((s.bump .framesHeard).raise n).haltReport) := fun n ho =>
    (hsame ((s.bump .framesHeard).raise n) ⟨rfl, rfl⟩).trans (haltReport (loaded_of_offersAccepted ho))
  by_cases ho : s.offersAccepted
  · exact guarded (fun _ => hcount) (guarded (fun _ => hflag _ ho) (guarded (fun _ => hflag _ ho)
      (guarded (fun _ => hsame _ ⟨rfl, rfl⟩) (hsame _ (by simp)))))
  · simpa [State.hearFrame, ho] using hcount

theorem hear {own : Bool} {f : Frame} (hst : s.Undisturbed t) (ht : t.bus.state ≠ .stopped) :
    s.Undisturbed (t.hearFrame own f) :=
  hst.trans (hearFrame own f ht)

/-- R69: a STEM is judged in ACTIVE only. -/
theorem judgeStem (x : Slot) (cls l : Nat) : s.Undisturbed (s.judgeStem x cls l) := by
  by_cases ha : s.dropActive
  · exact of_loaded (loaded_of_dropActive ha) (by simp)
  · simpa [State.judgeStem, ha] using refl s

/-- R155: a start is judged in ACTIVE only. -/
theorem judgeTieStart : s.Undisturbed s.judgeTieStart := by
  by_cases ha : s.dropActive
  · exact of_loaded (loaded_of_dropActive ha) (by simp)
  · simpa [State.judgeTieStart, ha] using refl s

end State.Undisturbed

end Sys2Proof.Machine
end

section
namespace Sys2Proof.Machine

variable {s t : State}

/-! ### The commands that are not the tracker's business -/

section
open State State.Undisturbed

/-- R1, R4, R5: a filter's input starts or clears its filter, and a stopped filter stays stopped. -/
theorem execFilterInputAsserted_undisturbed (input : FilteredInput) :
    ∃ t, execFilterInputAsserted input s = .next t ∧ s.Undisturbed t :=
  ⟨_, rfl, (Undisturbed.setPin input true).trans (Undisturbed.setFilter input _ fun h => by rw [h, Filter.onAssert])⟩

theorem execFilterInputReleased_undisturbed (input : FilteredInput) :
    ∃ t, execFilterInputReleased input s = .next t ∧ s.Undisturbed t :=
  ⟨_, rfl, ((Undisturbed.countGlitch input).trans (Undisturbed.setPin input false)).trans
    (Undisturbed.setFilter input _ fun h => by rw [h, Filter.onRelease])⟩

theorem execFilteredGateEdge_undisturbed : ∃ t, execFilteredGateEdge s = .next t ∧ s.Undisturbed t := by
  have hheld (h : s.tracker.gateFilter.admitsEdge = true) : s.Undisturbed (s.setGateFilter .held) :=
    Undisturbed.setFilter .gate .held fun (hstop : s.tracker.gateFilter = .stopped) => by
      simp [hstop, Filter.admitsEdge] at h
  exact ⟨_, rfl, guarded (fun ⟨⟨_, hl⟩, hf⟩ =>
    guarded (fun _ => (hheld hf).trans (of_loaded hl (by simp))) (hheld hf)) (refl s)⟩

/-- R27: the sender hears its own frame. -/
theorem execFrameSent_undisturbed : ∃ t, execFrameSent s = .next t ∧ s.Undisturbed t := by
  refine ⟨_, rfl, guarded (fun hb => ?_) (refl s)⟩
  have hrun : s.bus.state ≠ .stopped := by simp [hb]
  dsimp only
  split
  · exact of_busRunning hrun ⟨rfl, rfl⟩
  · exact hear (of_busRunning hrun ⟨rfl, rfl⟩) (by simp)

theorem execFrameHeard_undisturbed (chars : List Byte) : ∃ t, execFrameHeard chars s = .next t ∧ s.Undisturbed t := by
  refine ⟨_, rfl, guarded (fun hb => ?_) (refl s)⟩
  have hrun : s.bus.state ≠ .stopped := by simp [hb]
  split
  · exact of_busRunning hrun (by simp)
  · exact hear (of_busRunning hrun ⟨rfl, rfl⟩) (by simp)

theorem execStuckEntry_undisturbed : ∃ t, execStuckEntry s = .next t ∧ s.Undisturbed t := by
  refine ⟨_, rfl, ?_⟩
  split
  case h_1 => exact refl s
  all_goals next hb => exact of_busRunning (by simp [hb]) (by simp)

theorem execRemovalRequest_undisturbed (body : FrameBody) :
    ∃ t, execRemovalRequest body s = .next t ∧ s.Undisturbed t := by
  refine ⟨_, rfl, taken_guarded id fun _ => ?_⟩
  split <;> next answer => simp [loader_tracker_of_requestRemoval answer]

/-- The commands that number carriers, time them, or take a configuration in or out of use. -/
def movesTracker : Instr → Bool
  | .reset => true
  | .recordReadComplete _ => true
  | .cpQualification _ => true
  | .stall => true
  | _ => false

/-- Every other command leaves the numbering and the period alone, by the guard its meaning begins with. -/
theorem exec_undisturbed (c : Instr) (hc : movesTracker c = false) : ∃ t, exec c s = .next t ∧ s.Undisturbed t := by
  cases c with
  | reset | recordReadComplete _ | cpQualification _ | stall => exact absurd hc (by simp [movesTracker])
  -- the loader
  | memoryNoAcknowledge =>
    exact ⟨_, rfl, guarded (fun hm => Undisturbed.missAcknowledge (not_loaded_iff.mpr (.inl hm))) (refl s)⟩
  | retryWaitExpiry => exact ⟨_, rfl, guarded (fun _ => Undisturbed.retryRead) (refl s)⟩
  | announceTimerExpiry => exact ⟨_, rfl, guarded (fun ⟨hm, _⟩ => beginActive _ hm) (refl s)⟩
  | resetRelease rolePin idPins => exact ⟨_, rfl, guarded (fun _ => Undisturbed.readStraps rolePin idPins) (refl s)⟩
  | modeNotice _ _ => exact ⟨_, rfl, taken_guarded loaded_of_dropStarted fun _ => by simp⟩
  | haltNotice _ _ => exact ⟨_, rfl, taken_guarded (fun hm => .inr (.inr hm)) fun _ => by simp⟩
  | helloOutcome _ => exact ⟨_, rfl, Undisturbed.taken _⟩
  -- inputs
  | filterInputAsserted input => exact execFilterInputAsserted_undisturbed input
  | filterInputReleased input => exact execFilterInputReleased_undisturbed input
  | filteredGateEdge => exact execFilteredGateEdge_undisturbed
  | holdLevelChange _ => exact ⟨_, rfl, guarded (fun ⟨_, hl⟩ => of_loaded hl ⟨rfl, rfl⟩) (of_idle rfl rfl id)⟩
  -- the line and its queue
  | idleGapComplete | dominantLevelInWaitGap | contentionLost | spoil | frameDiscarded _ | stuckExit =>
    exact ⟨_, rfl, bus_guarded (by simp +contextual [or_imp]) fun _ => by simp⟩
  | contentionWindow | contentionDriveFailed | contentionWon =>
    exact ⟨_, rfl, bus_guarded (by simp +contextual) fun _ => by split <;> simp⟩
  | frameSent => exact execFrameSent_undisturbed
  | frameHeard chars => exact execFrameHeard_undisturbed chars
  | stuckEntry => exact execStuckEntry_undisturbed
  | carrierNotice _ => exact ⟨_, rfl, taken_guarded id fun _ => by simp⟩
  | removalRequest body => exact execRemovalRequest_undisturbed body
  -- the gauge
  | gaugeCarrierArrival _ =>
    exact ⟨_, rfl, guarded (fun ha => of_loaded (loaded_of_gaugeActive ha) (by simp))
      (taken_guarded (fun ⟨_, hm⟩ => .inl hm) fun _ => ⟨rfl, rfl⟩)⟩
  | scanDue _ | srdyAsserted | scanRecordComplete _ | responseLimitExpiry =>
    exact ⟨_, rfl, loaded_guarded (fun ⟨_, hl⟩ => hl) fun _ => by (repeat' split) <;> simp⟩
  | lotPress => exact ⟨_, rfl, loaded_guarded (fun ⟨⟨_, hl⟩, _⟩ => hl) fun _ => by split <;> simp⟩
  | gaugeStemHeard _ _ | gaugeClaimHeard _ | gaugeYieldHeard _ =>
    exact ⟨_, rfl, taken_guarded loaded_of_gaugeActive fun _ => by simp⟩
  | stemOutcome _ _ => exact ⟨_, rfl, taken_guarded (fun ⟨⟨_, hl⟩, _⟩ => hl) fun _ => by simp⟩
  | lotOutcome _ _ _ => exact ⟨_, rfl, taken_guarded (fun ⟨ha, _⟩ => loaded_of_gaugeActive ha) fun _ => by simp⟩
  -- the flight table and the claim engine
  | flightTableStem x cls l => exact ⟨_, rfl, (Undisturbed.taken _).trans (Undisturbed.judgeStem x cls l)⟩
  | flightTableClaim _ _ _ | flightTableYield _ _ _ | flightTableLot _ _ =>
    exact ⟨_, rfl, taken_guarded loaded_of_dropActive fun _ => by simp⟩
  | flightTableCarrierArrival _ => exact ⟨_, rfl, taken_guarded loaded_of_dropActive fun _ => by split <;> simp⟩
  | clearNoticeFlightTable _ | claimOutcome _ _ | passRequest =>
    exact ⟨_, rfl, taken_guarded (fun ⟨ha, _⟩ => loaded_of_dropActive ha) fun _ => by simp⟩
  | claimEngineCarrierArrival _ =>
    exact ⟨_, rfl, guarded (fun ha => of_loaded (loaded_of_dropActive ha) (by simp))
      (taken_guarded (fun ⟨_, hm⟩ => .inl hm) fun _ => ⟨rfl, rfl⟩)⟩
  | holdAssertion | holdRelease =>
    exact ⟨_, rfl, loaded_guarded (fun ⟨⟨_, hl⟩, _⟩ => hl) fun _ => by dsimp only; split <;> simp⟩
  | yieldRequest _ _ => exact ⟨_, rfl, taken_guarded (fun ⟨_, hl⟩ => hl) fun _ => by simp⟩
  | yieldOutcome _ _ _ => exact ⟨_, rfl, taken_guarded (fun ⟨⟨_, hl⟩, _⟩ => hl) fun _ => by simp⟩
  -- the cradles
  | win _ | returnCount _ | miss _ | place _ | closeLot _ | tieResult _ _ | uncertainMark _ =>
    exact ⟨_, rfl, taken_guarded (fun ⟨_, hl⟩ => hl) fun _ => by simp⟩
  | cradleCarrierArrival _ => exact ⟨_, rfl, taken_guarded loaded_of_dropActive fun _ => by simp⟩
  | holdNoticeCradle _ => exact ⟨_, rfl, taken_guarded loaded_of_dropActive fun _ => by dsimp only; split <;> simp⟩
  | clear _ => exact ⟨_, rfl, loaded_guarded (fun ⟨⟨_, hl⟩, _⟩ => hl) fun _ => by simp⟩
  -- the release unit
  | releaseHandover _ _ _ =>
    exact ⟨_, rfl, guarded (fun ha => of_loaded (loaded_of_dropActive ha) (by simp))
      (taken_guarded (fun ⟨⟨_, hl⟩, _⟩ => hl) fun _ => ⟨rfl, rfl⟩)⟩
  | releaseCarrierStep _ => exact ⟨_, rfl, taken_guarded loaded_of_dropActive fun _ => by split <;> simp⟩
  | holdNoticeReleaseUnit _ =>
    exact ⟨_, rfl, taken_guarded loaded_of_dropActive fun _ => by dsimp only; (repeat' split) <;> simp⟩
  | clearNoticeRelease _ => exact ⟨_, rfl, taken_guarded loaded_of_dropActive fun _ => by simp⟩
  | flapSettleExpiry | delayExpiry | confirmationWindowExpiry =>
    exact ⟨_, rfl, loaded_guarded (fun ⟨_, hl⟩ => hl) fun _ => by (repeat' split) <;> simp⟩
  | pulseEndExpiry => exact ⟨_, rfl, loaded_guarded (fun ⟨⟨_, hl⟩, _⟩ => hl) fun _ => by simp⟩
  -- the tie port
  | queueNotice => exact ⟨_, rfl, (Undisturbed.taken _).trans Undisturbed.judgeTieStart⟩
  | holdNoticeTiePort _ => exact ⟨_, rfl, taken_guarded loaded_of_dropActive fun _ => by dsimp only; split <;> simp⟩
  | tackEdge | tdoneEdge => exact ⟨_, rfl, loaded_guarded (fun ⟨_, hl⟩ => hl) fun _ => by (repeat' split) <;> simp⟩
  | recordShifted | ackLimitExpiry | tieLimitExpiry | statusWordComplete _ =>
    exact ⟨_, rfl, loaded_guarded (fun ⟨⟨_, hl⟩, _⟩ => hl) fun _ => by (repeat' split) <;> simp⟩
  -- the status port
  | snapshot | sselRelease => exact ⟨_, rfl, of_idle rfl rfl id⟩
  | ackPress => exact ⟨_, rfl, loaded_guarded (fun ⟨hl, _⟩ => hl) fun _ => ⟨rfl, rfl⟩⟩
  | lampFlashToggle =>
    exact ⟨_, rfl, guarded (fun hf => of_same (fun hr => absurd hr.flash_none hf) ⟨rfl, rfl⟩) (refl s)⟩

end

end Sys2Proof.Machine
end

section
namespace Sys2Proof.Machine

variable {s t : State}

/-! ### Invariants of a step -/

/-- A property that ignores the waiting commands and that every command and the tick keep is kept by every step. -/
theorem keptByEveryStep_of_exec_of_tick {inv : State → Prop} (hpending : ∀ s p, inv s → inv { s with pending := p })
    (hexec : ∀ c s t, inv s → exec c s = .next t → inv t) (htick : ∀ s, inv s → inv s.tick) :
    KeptByEveryStep inv := by
  intro s t hs hstep
  unfold step at hstep
  split at hstep
  · exact hexec _ _ _ (hpending _ _ hs) hstep
  · unfold State.idleStep at hstep
    split at hstep
    · exact hexec _ _ _ hs hstep
    · split at hstep
      · exact hexec _ _ _ hs hstep
      · cases hstep
        exact htick s hs

/-! ### An accepted pulse -/

theorem State.isEarly_eq_false_iff : s.isEarly = false ↔ ∀ n, s.tracker.interval = some n → s.cfg.periodMin ≤ n := by
  unfold State.isEarly
  split <;> simp_all

theorem State.isEarly_eq_true {n : Ticks} (hi : s.tracker.interval = some n) (hn : n < s.cfg.periodMin) :
    s.isEarly = true := by
  simp [State.isEarly, hi, hn]

/-- The period rules read the tracker and the record only. -/
theorem State.timePulse_tracker_congr (hl : t.loader = s.loader) (ht : t.tracker = s.tracker) (home : Bool) :
    (t.timePulse home).tracker = (s.timePulse home).tracker := by
  have hcfg : t.cfg = s.cfg := cfg_of_record_eq (by rw [hl])
  unfold State.timePulse
  rw [ht, hcfg]
  cases s.tracker.state <;> dsimp only <;> split_ifs <;> simp [ht]

/-- R13, R14: of the tracker the period rules touch P and the timed flag. -/
theorem State.timePulse_tracker (home : Bool) : (s.timePulse home).tracker = { s.tracker with
    period := (s.timePulse home).tracker.period, timed := (s.timePulse home).tracker.timed } := by
  unfold State.timePulse
  (repeat' split) <;> rfl

/-- R13: a pulse in TRACKING is timed when the timed flag is set, and sets it. -/
theorem State.timePulse_tracking (hs : s.tracker.state = .tracking) (home : Bool) :
    (s.timePulse home).tracker.timed = true ∧ (s.timePulse home).tracker.period =
      if s.tracker.timed = true then s.tracker.interval.getD s.tracker.period else s.tracker.period := by
  unfold State.timePulse
  rw [hs]
  dsimp only
  split_ifs with ht
  · exact ⟨ht, rfl⟩
  · exact ⟨rfl, rfl⟩

/-- R14: a pulse in STALLED brings Pnom. -/
theorem State.timePulse_stalled (hs : s.tracker.state = .stalled) (home : Bool) :
    (s.timePulse home).tracker.timed = false ∧ (s.timePulse home).tracker.period = s.cfg.periodNominal := by
  simp [State.timePulse, hs]

/-- R14: a pulse that leaves UNSYNCED brings Pnom. -/
theorem State.timePulse_unsynced (hs : s.tracker.state = .unsynced) (home : Bool) : (s.timePulse home).tracker =
    if home = true then { s.tracker with period := s.cfg.periodNominal, timed := false } else s.tracker := by
  simp only [State.timePulse, hs]
  split <;> rfl

/-- R12: the home count, which stops at 2L. -/
def State.homeCountAfter (s : State) (home : Bool) : Nat :=
  if home = true then 0 else min (s.tracker.homeCount + 1) (2 * s.cfg.chainLength)

theorem State.homeCountAfter_le (home : Bool) : s.homeCountAfter home ≤ 2 * s.cfg.chainLength := by
  unfold State.homeCountAfter
  split <;> omega

theorem State.countHome_tracker (home : Bool) :
    (s.countHome home).tracker = { s.tracker with homeCount := s.homeCountAfter home } := by
  unfold State.countHome State.homeCountAfter
  dsimp only
  split_ifs <;> rfl

theorem State.numbered_home : s.numbered true = some 0 := rfl

theorem State.numbered_unsynced (hs : s.tracker.state = .unsynced) : s.numbered false = none := by
  simp [State.numbered, hs]

/-- R7, R8: in TRACKING and STALLED a pulse is numbered. -/
theorem State.numbered_synced (hs : s.tracker.state ≠ .unsynced) (home : Bool) :
    s.numbered home = some (if home = true then 0 else s.advanced) := by
  unfold State.numbered
  split_ifs <;> rfl

/-- The numbering's counts do not reach the period rules. -/
theorem State.numberedAndTimed_tracker (home : Bool) :
    ((s.countNumbering home).timePulse home).tracker = (s.timePulse home).tracker :=
  timePulse_tracker_congr (by simp) (by simp) home

theorem State.numberedAndTimed_cfg (home : Bool) : ((s.countNumbering home).timePulse home).cfg = s.cfg :=
  cfg_of_record_eq (by simp)

theorem State.numberedAndTimed_homeCount (home : Bool) :
    ((s.countNumbering home).timePulse home).tracker.homeCount = s.tracker.homeCount := by
  rw [numberedAndTimed_tracker, timePulse_tracker]

/-- The tracker after an accepted pulse (R6, R7, R11 to R14). -/
theorem State.acceptPulse_tracker (home : Bool) : (s.acceptPulse home).tracker = { s.tracker with
    state := if (s.numbered home).isSome = true then .tracking else .unsynced
    slotHere := s.numbered home
    period := (s.timePulse home).tracker.period
    timed := (s.timePulse home).tracker.timed
    interval := some 0
    homeCount := s.homeCountAfter home } := by
  have hcount : ((s.countNumbering home).timePulse home).homeCountAfter home = s.homeCountAfter home := by
    rw [homeCountAfter, numberedAndTimed_homeCount, numberedAndTimed_cfg, homeCountAfter]
  unfold State.acceptPulse
  simp only [State.handArrival_frame, State.placePulse, State.countHome_tracker, hcount, numberedAndTimed_tracker]
  rw [timePulse_tracker]
  cases s.numbered home <;> rfl

/-- The arrival handed to the consumers of the role (R9). -/
theorem State.acceptPulse_handed {here : Slot} {home : Bool} (hn : s.numbered home = some here) :
    (s.acceptPulse home).handed = s.handed ++ arrivalConsumers s.loader.role
      ⟨here, (s.timePulse home).tracker.period, s.isSlip home⟩ := by
  simp [State.acceptPulse, hn, State.handArrival, State.placePulse, countHome_tracker, numberedAndTimed_tracker]

/-- R9: of the rest of the machine an accepted pulse touches the counters and flags and what is handed over. -/
theorem State.acceptPulse_eq (home : Bool) : s.acceptPulse home = { s with
    tracker := (s.acceptPulse home).tracker, status := (s.acceptPulse home).status
    handed := (s.acceptPulse home).handed } := by
  have hframe := s.acceptPulse_frame home
  generalize s.acceptPulse home = t at hframe ⊢
  cases s
  cases t
  simp_all

/-- R8: a slip is judged on the numbering of TRACKING and STALLED. -/
theorem State.isSlip_synced (hs : s.tracker.state ≠ .unsynced) (home : Bool) :
    s.isSlip home = decide (home = true ∧ s.advanced ≠ 0) := by
  simp [State.isSlip, hs]

/-- R7, R8: what the numbering counts. -/
theorem State.countNumbering_counter (home : Bool) (n : CounterName) : (s.countNumbering home).counter n =
    if n = .slips ∧ s.isSlip home = true
        ∨ n = .homeMissed ∧ s.tracker.state ≠ .unsynced ∧ home = false ∧ s.advanced = 0 then
      countUp (s.counter n)
    else s.counter n := by
  unfold State.countNumbering
  cases home with
  | true =>
    by_cases hslip : s.isSlip true = true
    · by_cases hn : n = .slips
      · subst hn
        simp [hslip]
      · simp [hslip, hn]
    · simp [hslip]
  | false =>
    have hslip : s.isSlip false = false := by simp [State.isSlip]
    by_cases hmissed : s.tracker.state ≠ .unsynced ∧ s.advanced = 0
    · by_cases hn : n = .homeMissed
      · subst hn
        simp [hslip, hmissed]
      · simp [hslip, hmissed, hn]
    · simp [hslip, hmissed]

/-- R8: a slip raises SLIP. -/
theorem State.countNumbering_flag (home : Bool) (f : FlagName) :
    (s.countNumbering home).flag f = (s.flag f || decide (f = .slip ∧ s.isSlip home = true)) := by
  unfold State.countNumbering
  by_cases hf : f = .slip
  · subst hf
    split_ifs with hslip <;> simp [hslip]
  · split_ifs <;> simp [hf]

/-- R12: HOME_MISSING at 2L carriers without HM. -/
theorem State.countHome_status (home : Bool) : (s.countHome home).status =
    if home = false ∧ 2 * s.cfg.chainLength ≤ s.tracker.homeCount + 1 then (s.raise .homeMissing).status
    else s.status := by
  unfold State.countHome
  cases home with
  | true => rfl
  | false =>
    have hfull : min (s.tracker.homeCount + 1) (2 * s.cfg.chainLength) = 2 * s.cfg.chainLength
        ↔ 2 * s.cfg.chainLength ≤ s.tracker.homeCount + 1 := min_eq_right_iff
    simp only [Bool.false_eq_true, if_false, true_and, hfull]
    split <;> rfl

theorem State.countHome_flag (home : Bool) (f : FlagName) : (s.countHome home).flag f =
    (s.flag f || decide (f = .homeMissing ∧ home = false ∧ 2 * s.cfg.chainLength ≤ s.tracker.homeCount + 1)) := by
  rw [State.flag, countHome_status]
  split_ifs with hmissing
  · change (s.raise .homeMissing).flag f = _
    by_cases hf : f = .homeMissing
    · subst hf
      simp [hmissing]
    · simp [hf]
  · simp [hmissing, State.flag]

theorem State.countHome_counter (home : Bool) (n : CounterName) : (s.countHome home).counter n = s.counter n := by
  unfold State.countHome
  dsimp only
  split_ifs <;> rfl

theorem State.acceptPulse_status (home : Bool) :
    (s.acceptPulse home).status = (((s.countNumbering home).timePulse home).countHome home).status := by
  simp [State.acceptPulse, State.placePulse]

theorem State.acceptPulse_counter (home : Bool) (n : CounterName) :
    (s.acceptPulse home).counter n = (s.countNumbering home).counter n := by
  rw [State.counter, acceptPulse_status]
  exact (countHome_counter home n).trans (by simp [State.counter])

theorem State.acceptPulse_flag (home : Bool) (f : FlagName) : (s.acceptPulse home).flag f =
    (s.flag f || decide (f = .slip ∧ s.isSlip home = true)
      || decide (f = .homeMissing ∧ home = false ∧ 2 * s.cfg.chainLength ≤ s.tracker.homeCount + 1)) := by
  have htimed : ((s.countNumbering home).timePulse home).flag f = (s.countNumbering home).flag f := by
    simp [State.flag]
  rw [State.flag, acceptPulse_status]
  exact (countHome_flag home f).trans
    (by rw [htimed, numberedAndTimed_homeCount, numberedAndTimed_cfg, countNumbering_flag])

/-! ### The tracker's ranges -/

/-- The ranges of 1.1 for a record in use: P, slot here, interval timer and home count (R7, R12, R13). -/
structure Tracker.Within (cfg : StationConfig) (k : Tracker) : Prop where
  periodMin_le : cfg.periodMin ≤ k.period
  period_le : k.period ≤ stallLimit
  slotHere_none_iff : k.slotHere = none ↔ k.state = .unsynced
  slotHere_lt : ∀ slot, k.slotHere = some slot → slot < cfg.chainLength
  interval_le : ∀ n, k.interval = some n → n ≤ stallLimit
  homeCount_le : k.homeCount ≤ 2 * cfg.chainLength

theorem State.trackerSound_iff : s.trackerSound ↔ s.idleBeforeLoad ∧ (s.loaded →
    ∃ cfg, s.loader.record = some cfg ∧ trackable cfg ∧ s.tracker.Within cfg) := by
  refine and_congr_right fun _ => imp_congr_right fun _ => ⟨?_, ?_⟩
  · rintro ⟨⟨cfg, hrecord, hcfg⟩, hmin, hmax, hnone, hslot, hinterval, hhome⟩
    rw [cfg_of_record hrecord] at hmin hslot hhome
    exact ⟨cfg, hrecord, hcfg, hmin, hmax, hnone, hslot, hinterval, hhome⟩
  · rintro ⟨cfg, hrecord, hcfg, hmin, hmax, hnone, hslot, hinterval, hhome⟩
    rw [cfg_of_record hrecord]
    exact ⟨⟨cfg, hrecord, hcfg⟩, hmin, hmax, hnone, hslot, hinterval, hhome⟩

/-- R13, R14: a pulse that is not early leaves P in its range, timed or replaced by Pnom. -/
theorem State.timePulse_period_within (hcfg : trackable s.cfg) (hw : s.tracker.Within s.cfg)
    (he : s.isEarly = false) (home : Bool) :
    s.cfg.periodMin ≤ (s.timePulse home).tracker.period ∧ (s.timePulse home).tracker.period ≤ stallLimit := by
  obtain ⟨-, -, hnominal, hmax⟩ := hcfg
  have hnom : s.cfg.periodMin ≤ s.cfg.periodNominal ∧ s.cfg.periodNominal ≤ stallLimit :=
    ⟨hnominal, hmax.trans (by decide)⟩
  have hkept := And.intro hw.periodMin_le hw.period_le
  cases hstate : s.tracker.state with
  | unsynced =>
    rw [timePulse_unsynced hstate]
    split
    · exact hnom
    · exact hkept
  | stalled => rwa [(timePulse_stalled hstate home).2]
  | tracking =>
    rw [(timePulse_tracking hstate home).2]
    split
    · cases hinterval : s.tracker.interval with
      | none => exact hkept
      | some n => exact ⟨isEarly_eq_false_iff.mp he n hinterval, hw.interval_le n hinterval⟩
    · exact hkept

/-- An accepted pulse keeps the ranges. -/
theorem State.acceptPulse_within (hcfg : trackable s.cfg) (hw : s.tracker.Within s.cfg) (he : s.isEarly = false)
    (home : Bool) : (s.acceptPulse home).tracker.Within s.cfg := by
  obtain ⟨hmin, hmax⟩ := timePulse_period_within hcfg hw he home
  have hlength : 0 < s.cfg.chainLength := Nat.lt_of_lt_of_le (by decide) hcfg.1
  rw [acceptPulse_tracker]
  refine ⟨hmin, hmax, ?_, ?_, ?_, homeCountAfter_le home⟩
  · cases s.numbered home <;> simp
  · intro slot hslot
    change s.numbered home = some slot at hslot
    unfold State.numbered at hslot
    split_ifs at hslot
    · cases hslot
      exact hlength
    · cases hslot
      exact Nat.mod_lt _ hlength
  · rintro n ⟨⟩
    exact Nat.zero_le _

/-- R10: a stall changes the tracker's state only, between two in which slot here has a value. -/
theorem Tracker.Within.stall {cfg : StationConfig} {k : Tracker} (hw : k.Within cfg) (hs : k.state = .tracking) :
    Tracker.Within cfg { k with state := .stalled } :=
  { hw with slotHere_none_iff := by simp [hw.slotHere_none_iff, hs] }

/-- R13: the interval timer stops at 262,143. -/
theorem Tracker.Within.tick {cfg : StationConfig} {k : Tracker} (hw : k.Within cfg) (c : StationConfig) :
    (tickTracker c k).Within cfg :=
  { hw with
    interval_le := by
      intro n hn
      obtain ⟨m, -, rfl⟩ := Option.map_eq_some_iff.mp hn
      exact min_le_right _ _ }

/-- R14, R17: the values the end of loading leaves. -/
theorem Tracker.Within.load {cfg : StationConfig} {k : Tracker} (hcfg : trackable cfg) (hk : k = Tracker.reset)
    (timed : Bool) (cp gate : Filter) :
    Tracker.Within cfg { k with period := cfg.periodNominal, timed := timed, cpFilter := cp, gateFilter := gate } := by
  obtain ⟨-, -, hnominal, hmax⟩ := hcfg
  subst hk
  exact ⟨hnominal, hmax.trans (by decide), by simp [Tracker.reset], by simp [Tracker.reset], by simp [Tracker.reset],
    Nat.zero_le _⟩

theorem Tracker.Within.of_filters {cfg : StationConfig} {k : Tracker} (hw : k.Within cfg) (cp gate : Filter) :
    Tracker.Within cfg { k with cpFilter := cp, gateFilter := gate } :=
  { hw with }

/-! ### The record the tracker rests on -/

/-- A record with no failed check passes each of them. -/
theorem not_failed_of_firstFailure : ∀ {l : List (Nat × Bool)}, (∀ c ∈ l, c.1 ≠ 0) → firstFailure l = 0 →
    ∀ c ∈ l, c.2 = false
  | [], _, _ => by simp
  | (_, true) :: _, hnumbers, h => absurd h (List.forall_mem_cons.mp hnumbers).1
  | (_, false) :: _, hnumbers, h =>
    List.forall_mem_cons.mpr ⟨rfl, not_failed_of_firstFailure (List.forall_mem_cons.mp hnumbers).2 h⟩

theorem commonChecks_passed {role : Role} {id : Nat} {record : List Byte} (h : reasonOf role id record = 0) :
    ∀ c ∈ commonChecks id record, c.2 = false := by
  have hnumbers : ∀ c ∈ roleChecks role id record, c.1 ≠ 0 := by
    cases role <;> simp [roleChecks, commonChecks, dropChecks, gaugeChecks]
  intro c hc
  exact not_failed_of_firstFailure hnumbers h c (by cases role <;> exact List.mem_append_left _ hc)

/-- Checks 5 and 7 of R170 bring the ranges of L, Pmin and Pnom. -/
theorem trackable_of_reasonOf {role : Role} {id : Nat} {record : List Byte} (h : reasonOf role id record = 0) :
    trackable (configOf role record) := by
  have hpassed := commonChecks_passed h
  have hchain := hpassed (5, _) (by simp [commonChecks]; rfl)
  have hperiods := hpassed (7, _) (by simp [commonChecks]; rfl)
  simp only [outside, Bool.or_eq_false_iff, decide_eq_false_iff_not] at hchain hperiods
  have hfields : (configOf role record).chainLength = pairAt record 2
      ∧ (configOf role record).periodMin = pairAt record 4 * 100
      ∧ (configOf role record).periodNominal = pairAt record 6 * 100 := by
    cases role <;> exact ⟨rfl, rfl, rfl⟩
  obtain ⟨hlength, hmin, hnominal⟩ := hfields
  unfold trackable
  rw [hlength, hmin, hnominal]
  have hnominal_le : pairAt record 6 ≤ 2000 := by omega
  exact ⟨by omega, by omega, Nat.mul_le_mul_right 100 (by omega), Nat.mul_le_mul_right 100 hnominal_le⟩

/-! ### Taking a record into use -/

theorem State.takeRecord_loader_tracker (role : Role) (cfg : StationConfig) :
    (s.takeRecord role cfg).loader.mode = .announcing ∧ (s.takeRecord role cfg).loader.record = some cfg
    ∧ (s.takeRecord role cfg).tracker = (s.loadTracker role cfg).tracker := by
  cases role <;> simp [State.takeRecord, State.beginAnnouncing, State.loadRoleBlocks, State.loadStatusPort,
    State.loadDropBlocks, State.loadGaugeUnit, State.loadLineBus]

/-! ### Every step keeps the tracker sound -/

/-- R171: no block leaves its reset values before the end of loading. -/
theorem State.idleBeforeLoad_iff : s.idleBeforeLoad ↔ (¬ s.loaded → s.blocksAtReset) := by
  rw [not_loaded_iff, State.idleBeforeLoad]

theorem State.idleBeforeLoad_of_loaded (h : s.loaded) : s.idleBeforeLoad :=
  idleBeforeLoad_iff.mpr (absurd h)

theorem State.Undisturbed.idleBeforeLoad (h : s.Undisturbed t) (hs : s.idleBeforeLoad) : t.idleBeforeLoad :=
  idleBeforeLoad_iff.mpr fun ht =>
    have hns := mt h.loaded.mpr ht
    h.idle hns (idleBeforeLoad_iff.mp hs hns)

theorem State.Undisturbed.trackerSound (h : s.Undisturbed t) (hs : s.trackerSound) : t.trackerSound := by
  obtain ⟨hidle, hrange⟩ := trackerSound_iff.mp hs
  refine trackerSound_iff.mpr ⟨h.idleBeforeLoad hidle, fun ht => ?_⟩
  obtain ⟨cfg, hrecord, hcfg, hw⟩ := hrange (h.loaded.mp ht)
  rw [h.record, h.tracker]
  exact ⟨cfg, hrecord, hcfg, hw.of_filters _ _⟩

/-- A step of the tracker past loading: record and mode stay, the ranges have to be shown. -/
theorem State.trackerSound_of_within (hs : s.trackerSound) (hl : s.loaded) (hloader : t.loader = s.loader)
    (hw : trackable s.cfg → s.tracker.Within s.cfg → t.tracker.Within s.cfg) : t.trackerSound := by
  obtain ⟨cfg, hrecord, hcfg, hwithin⟩ := (trackerSound_iff.mp hs).2 hl
  rw [cfg_of_record hrecord] at hw
  have ht : t.loaded := by rwa [State.loaded, hloader]
  exact trackerSound_iff.mpr ⟨idleBeforeLoad_of_loaded ht, fun _ => ⟨cfg, hloader ▸ hrecord, hcfg, hw hcfg hwithin⟩⟩

/-- R178: after RESET every block is at its reset values. -/
theorem State.resetBlocks_trackerSound : s.resetBlocks.trackerSound := by
  refine trackerSound_iff.mpr ⟨fun _ => ?_, fun h => ?_⟩
  · exact ⟨rfl, rfl, rfl, rfl, rfl, rfl, rfl, rfl, rfl, fun f _ => by cases f <;> rfl, rfl, rfl, rfl⟩
  · exact absurd h (not_loaded_iff.mpr (.inl rfl))

/-- R170, R172: a record read in LOADING is taken into use with its ranges checked, or a check fails. -/
theorem State.judgeRecord_trackerSound (hs : s.trackerSound) (hm : s.loader.mode = .loading) (role : Role)
    (record : List Byte) : (s.judgeRecord role record).trackerSound := by
  have hreset := hs.1 (.inl hm)
  unfold State.judgeRecord
  split
  case isTrue hgood =>
    obtain ⟨hmode, hrecord, htracker⟩ := s.takeRecord_loader_tracker role (configOf role record)
    have hcfg := trackable_of_reasonOf hgood
    refine trackerSound_iff.mpr ⟨idleBeforeLoad_of_loaded (.inl hmode), fun _ => ⟨_, hrecord, hcfg, ?_⟩⟩
    rw [htracker]
    exact .load hcfg hreset.tracker_eq _ _ _
  case isFalse => exact (State.Undisturbed.failCheck _ (not_loaded_iff.mpr (.inl hm))).trackerSound hs

theorem State.endRead_trackerSound (hs : s.trackerSound) (hm : s.loader.mode = .loading) (bytes : List Byte) :
    (s.endRead bytes).trackerSound := by
  unfold State.endRead
  split
  · exact judgeRecord_trackerSound hs hm _ _
  all_goals exact hs

/-- R2, R6 to R14: a qualified CP edge. -/
theorem State.judgePulse_trackerSound (hs : s.trackerSound) (hl : s.loaded) (home : Bool) :
    (s.judgePulse home).trackerSound := by
  unfold State.judgePulse
  cases he : s.isEarly with
  | true => exact (State.Undisturbed.of_loaded (t := s.bump .earlyPulses) hl ⟨rfl, rfl⟩).trackerSound hs
  | false => exact trackerSound_of_within hs hl (by simp) fun hcfg hw => acceptPulse_within hcfg hw he home

/-- R10: a stall happens in TRACKING, past loading. -/
theorem execStall_trackerSound (hs : s.trackerSound) : ∃ t, execStall s = .next t ∧ t.trackerSound := by
  refine ⟨_, rfl, ?_⟩
  split
  case isTrue h =>
    obtain ⟨htracking, -⟩ := h
    have hl : s.loaded := by
      by_contra hn
      rw [(State.idleBeforeLoad_iff.mp hs.1 hn).tracker_eq] at htracking
      cases htracking
    exact State.trackerSound_of_within hs hl rfl fun _ hw => hw.stall htracking
  case isFalse => exact hs

/-- A tick moves no block that stands at its reset values. -/
theorem State.blocksAtReset.tick (h : s.blocksAtReset) : s.tick.blocksAtReset := by
  obtain ⟨htracker, hbus, hgauge, htable, hengine, hcradles, hrelease, htie, hcounters, hflags, hack, hflash, hlit⟩ := h
  refine ⟨?_, ?_, ?_, htable, ?_, ?_, ?_, ?_, hcounters, hflags, ?_, ?_, hlit⟩ <;> dsimp only [State.tick]
  · rw [htracker]; rfl
  · rw [hbus]; rfl
  · rw [hgauge]; rfl
  · rw [hengine]; rfl
  · rw [hcradles]; rfl
  · rw [hrelease]; rfl
  · rw [htie]; rfl
  · rw [tickStatus, hack]; rfl
  · rw [tickStatus, hflash]; rfl

theorem State.tick_trackerSound (hs : s.trackerSound) : s.tick.trackerSound := by
  obtain ⟨hidle, hrange⟩ := trackerSound_iff.mp hs
  refine trackerSound_iff.mpr ⟨fun hm => (hidle hm).tick, fun hl => ?_⟩
  obtain ⟨cfg, hrecord, hcfg, hw⟩ := hrange hl
  exact ⟨cfg, hrecord, hcfg, hw.tick _⟩

/-- Every command keeps the tracker sound. -/
theorem exec_trackerSound (c : Instr) (hs : s.trackerSound) : ∃ t, exec c s = .next t ∧ t.trackerSound := by
  cases hc : movesTracker c with
  | false =>
    obtain ⟨t, he, hst⟩ := exec_undisturbed (s := s) c hc
    exact ⟨t, he, hst.trackerSound hs⟩
  | true =>
    cases c with
    | reset => exact ⟨_, rfl, State.resetBlocks_trackerSound⟩
    | recordReadComplete bytes =>
      refine ⟨_, rfl, ?_⟩
      split
      case isTrue hm => exact State.endRead_trackerSound hs hm bytes
      case isFalse => exact hs
    | cpQualification home =>
      refine ⟨_, rfl, ?_⟩
      split
      case isTrue h =>
        obtain ⟨hl, hedge⟩ := h
        have hheld : s.Undisturbed (s.setFilter .cp .held) :=
          .setFilter .cp .held fun (hstop : s.tracker.cpFilter = .stopped) => by simp [hstop, Filter.admitsEdge] at hedge
        exact State.judgePulse_trackerSound (hheld.trackerSound hs) (hheld.loaded.mpr hl) home
      case isFalse => exact hs
    | stall => exact execStall_trackerSound hs
    | _ => cases hc

/-- Settles O16: the commands of other blocks leave numbering and period alone, and those of the tracker, the end of
loading and the tick keep each range. -/
theorem trackerStaysInItsRanges : Obligations.TrackerStaysInItsRanges := by
  unfold Obligations.TrackerStaysInItsRanges
  refine keptByEveryStep_of_exec_of_tick (fun _ _ hs => hs) ?_ fun _ => State.tick_trackerSound
  intro c s t hs he
  obtain ⟨u, hu, hsound⟩ := exec_trackerSound c hs
  cases hu.symm.trans he
  exact hsound

end Sys2Proof.Machine
end

section
namespace Sys2Proof.Machine

variable {s : State}

/-! ### Width filters follow their inputs (R1, R4, R5) -/

theorem Filter.onAssert_of_ne {f : Filter} (h : f ≠ .released) : f.onAssert = f := by
  cases f with
  | released => exact absurd rfl h
  | stopped | qualifying _ | held => rfl

theorem Filter.onRelease_of_ne {f : Filter} (h : f ≠ .stopped) : f.onRelease = .released := by
  cases f with
  | stopped => exact absurd rfl h
  | released | qualifying _ | held => rfl

/-- Only CP counts a glitch, with the pin's level reported beside it. -/
theorem State.countGlitch_setPin (input : FilteredInput) (v : Bool) : (s.countGlitch input).setPin input v =
    if input = .cp ∧ s.tracker.cpFilter.isQualifying = true then ({ s with pins := s.pins.set v input }).bump .glitches
    else { s with pins := s.pins.set v input } :=
  apply_ite (State.setPin input v) _ _ _

theorem execFilterInputAsserted_spec (s : State) (input : FilteredInput) :
    ∃ t, exec (.filterInputAsserted input) s = .next t
      ∧ t.setFilter input (s.filter input) = s.setPin input true ∧ t.filter input = (s.filter input).onAssert := by
  refine ⟨_, rfl, ?_, ?_⟩
  · rw [State.setFilter_setFilter, ← s.filter_setPin input input true, State.setFilter_filter]
  · rw [State.filter_setFilter, State.filter_setPin]

theorem execFilterInputReleased_spec (s : State) (input : FilteredInput) :
    ∃ t, exec (.filterInputReleased input) s = .next t
      ∧ t.setFilter input (s.filter input) = (s.countGlitch input).setPin input false
      ∧ t.filter input = (s.filter input).onRelease := by
  have hkept : ((s.countGlitch input).setPin input false).filter input = s.filter input := by simp
  refine ⟨_, rfl, ?_, ?_⟩
  · rw [State.setFilter_setFilter, ← hkept, State.setFilter_filter]
  · rw [State.filter_setFilter, hkept]

/-- Settles O12: the two inputs' effects on a filter, taken apart by the filter's state. -/
theorem filtersFollowTheirInputs : Obligations.FiltersFollowTheirInputs := by
  intro s input
  obtain ⟨t, hassert, hrest, hfilter⟩ := execFilterInputAsserted_spec s input
  obtain ⟨u, hrelease, hrest', hfilter'⟩ := execFilterInputReleased_spec s input
  refine ⟨⟨t, hassert, hrest, ?_, ?_⟩, ⟨u, hrelease, hrest'.trans (State.countGlitch_setPin input false), ?_, ?_⟩⟩
  · intro h
    rw [hfilter, h, Filter.onAssert]
  · intro h
    rw [hfilter, Filter.onAssert_of_ne h]
  · intro h
    rw [hfilter', h, Filter.onRelease]
  · intro h
    rw [hfilter', Filter.onRelease_of_ne h]

/-! ### A qualified CP edge -/

/-- A qualified CP edge holds the filter and is judged (R1, R2). -/
theorem exec_cpQualification (hl : s.loaded) (hedge : s.tracker.cpFilter.admitsEdge = true) (home : Bool) :
    exec (.cpQualification home) s = .next ((s.setFilter .cp .held).judgePulse home) :=
  congrArg Host.Outcome.next (if_pos ⟨hl, hedge⟩)

/-- R2: before Pmin the edge is early. -/
theorem exec_cpQualification_early (hl : s.loaded) (hedge : s.tracker.cpFilter.admitsEdge = true) {n : Ticks}
    (hi : s.tracker.interval = some n) (hn : n < s.cfg.periodMin) (home : Bool) :
    exec (.cpQualification home) s = .next ((s.setFilter .cp .held).bump .earlyPulses) := by
  have hearly : (s.setFilter .cp .held).isEarly = true := State.isEarly_eq_true hi hn
  rw [exec_cpQualification hl hedge, State.judgePulse, if_pos hearly]

/-- R2: from Pmin on, or with no interval under way, the pulse is accepted. -/
theorem exec_cpQualification_accepted (hl : s.loaded) (hedge : s.tracker.cpFilter.admitsEdge = true)
    (hi : ∀ n, s.tracker.interval = some n → s.cfg.periodMin ≤ n) (home : Bool) :
    exec (.cpQualification home) s = .next ((s.setFilter .cp .held).acceptPulse home) := by
  have hearly : (s.setFilter .cp .held).isEarly = false := State.isEarly_eq_false_iff.mpr hi
  rw [exec_cpQualification hl hedge, State.judgePulse, hearly, if_neg Bool.false_ne_true]

/-! ### Leaving UNSYNCED (R6) -/

/-- R6: in UNSYNCED nothing is judged for the home mark. -/
theorem State.countNumbering_unsynced (hs : s.tracker.state = .unsynced) (home : Bool) : s.countNumbering home = s := by
  simp [State.countNumbering, State.isSlip, hs]

/-- R6: a pulse with HM in UNSYNCED. -/
theorem State.acceptPulse_unsynced_home (hs : s.tracker.state = .unsynced) : s.acceptPulse true = { s with
    tracker := { s.tracker with
      state := .tracking, slotHere := some 0, period := s.cfg.periodNominal, interval := some 0
      timed := false, homeCount := 0 }
    handed := s.handed ++ arrivalConsumers s.loader.role ⟨0, s.cfg.periodNominal, false⟩ } := by
  have hslip : s.isSlip true = false := by simp [State.isSlip, hs]
  unfold State.acceptPulse
  rw [State.countNumbering_unsynced hs, hslip, State.numbered_home, State.timePulse, hs]
  rfl

/-- R6, R12: a pulse without HM in UNSYNCED restarts the interval and counts towards HOME_MISSING, nothing else. -/
theorem State.acceptPulse_unsynced_away (hs : s.tracker.state = .unsynced) : s.acceptPulse false = { s with
    tracker := { s.tracker with slotHere := none, interval := some 0, homeCount := s.homeCountAfter false }
    status := (s.countHome false).status } := by
  have haccept : s.acceptPulse false = (s.countHome false).placePulse none := by
    unfold State.acceptPulse
    rw [State.countNumbering_unsynced hs, State.numbered_unsynced hs, State.timePulse, hs]
    rfl
  rw [haccept, State.placePulse, State.countHome_tracker, ← hs]
  unfold State.countHome
  dsimp only
  split_ifs <;> rfl

/-- Settles O13: the early edge, and the two accepted pulses of UNSYNCED. -/
theorem earlyPulseAndUnsyncedPulse : Obligations.EarlyPulseAndUnsyncedPulse := by
  intro s home hl hedge
  refine ⟨fun n hi hn => exec_cpQualification_early hl hedge hi hn home, fun hi hs => ⟨?_, ?_⟩⟩
  · exact (exec_cpQualification_accepted hl hedge hi true).trans
      (congrArg _ (State.acceptPulse_unsynced_home (s := s.setFilter .cp .held) hs))
  · refine ⟨_, (exec_cpQualification_accepted hl hedge hi false).trans
      (congrArg _ (State.acceptPulse_unsynced_away (s := s.setFilter .cp .held) hs)), rfl, rfl, ?_⟩
    refine (State.countHome_status false).trans ?_
    change (if _ ∧ 2 * s.cfg.chainLength ≤ s.tracker.homeCount + 1 then _ else _) = _
    by_cases hmissing : 2 * s.cfg.chainLength ≤ s.tracker.homeCount + 1
    · exact (if_pos ⟨rfl, hmissing⟩).trans (if_neg (Nat.not_lt.mpr hmissing)).symm
    · exact (if_neg fun h => hmissing h.2).trans (if_pos (Nat.not_le.mp hmissing)).symm

/-! ### An accepted pulse on a numbering (R7 to R9, R11 to R13) -/

/-- A pulse that numbers a carrier: what it leaves in the tracker, counts, raises and hands over, but for P and the
timed flag. -/
structure State.Numbers (s : State) (home : Bool) (t : State) : Prop where
  frame : t = { s with tracker := t.tracker, status := t.status, handed := t.handed }
  tracker : t.tracker = { s.tracker with
    state := .tracking, slotHere := some (if home = true then 0 else s.advanced), period := t.tracker.period
    interval := some 0, timed := t.tracker.timed, homeCount := s.homeCountAfter home, cpFilter := .held }
  handed : t.handed = s.handed ++ arrivalConsumers s.loader.role
    ⟨if home = true then 0 else s.advanced, t.tracker.period, decide (home = true ∧ s.advanced ≠ 0)⟩
  flag_slip : t.flag .slip = (s.flag .slip || decide (home = true ∧ s.advanced ≠ 0))
  slips : t.counter .slips = if home = true ∧ s.advanced ≠ 0 then countUp (s.counter .slips) else s.counter .slips
  homeMissed : t.counter .homeMissed =
    if home = false ∧ s.advanced = 0 then countUp (s.counter .homeMissed) else s.counter .homeMissed
  flag_homeMissing : t.flag .homeMissing = (s.flag .homeMissing
    || decide (home = false ∧ 2 * s.cfg.chainLength ≤ s.tracker.homeCount + 1))
  counter_other : ∀ n, n ≠ .slips → n ≠ .homeMissed → t.counter n = s.counter n
  flag_other : ∀ f, f ≠ .slip → f ≠ .homeMissing → t.flag f = s.flag f

theorem State.acceptPulse_numbers (hs : s.tracker.state ≠ .unsynced) (home : Bool) :
    s.Numbers home ((s.setFilter .cp .held).acceptPulse home) := by
  have hs' : (s.setFilter .cp .held).tracker.state ≠ .unsynced := hs
  have hslip : (s.setFilter .cp .held).isSlip home = decide (home = true ∧ s.advanced ≠ 0) := isSlip_synced hs' home
  have hnumber : (s.setFilter .cp .held).numbered home = some (if home = true then 0 else s.advanced) :=
    numbered_synced hs' home
  have htracker := (s.setFilter .cp .held).acceptPulse_tracker home
  have hperiod : ((s.setFilter .cp .held).acceptPulse home).tracker.period
      = ((s.setFilter .cp .held).timePulse home).tracker.period := by rw [htracker]
  have htimed : ((s.setFilter .cp .held).acceptPulse home).tracker.timed
      = ((s.setFilter .cp .held).timePulse home).tracker.timed := by rw [htracker]
  have hcounter (n : CounterName) : ((s.setFilter .cp .held).acceptPulse home).counter n =
      if n = .slips ∧ (s.setFilter .cp .held).isSlip home = true
        ∨ n = .homeMissed ∧ s.tracker.state ≠ .unsynced ∧ home = false ∧ s.advanced = 0 then
        countUp (s.counter n) else s.counter n :=
    (acceptPulse_counter home n).trans (countNumbering_counter home n)
  have hflag (f : FlagName) : ((s.setFilter .cp .held).acceptPulse home).flag f =
      (s.flag f || decide (f = .slip ∧ (s.setFilter .cp .held).isSlip home = true)
        || decide (f = .homeMissing ∧ home = false ∧ 2 * s.cfg.chainLength ≤ s.tracker.homeCount + 1)) :=
    acceptPulse_flag home f
  rw [hslip] at hcounter hflag
  refine ⟨acceptPulse_eq home, ?_, ?_, ?_, ?_, ?_, ?_, ?_, ?_⟩
  · rw [hperiod, htimed, htracker, hnumber]
    rfl
  · rw [acceptPulse_handed hnumber, hperiod, hslip]
    rfl
  · simp [hflag]
  · simp [hcounter]
  · simp [hcounter, hs]
  · simp [hflag]
  · intro n hn hn'
    simp [hcounter, hn, hn']
  · intro f hf hf'
    simp [hflag, hf, hf']

theorem State.advanced_of_slotHere {here : Slot} (h : s.tracker.slotHere = some here) :
    s.advanced = (here + 1) % s.cfg.chainLength := by
  simp [State.advanced, State.here, h]

/-- R13: in TRACKING the pulse sets the timed flag, and found set it brings the interval to P. -/
theorem State.acceptPulse_tracking (hs : s.tracker.state = .tracking) (home : Bool) :
    (s.acceptPulse home).tracker.timed = true ∧ (s.acceptPulse home).tracker.period =
      if s.tracker.timed = true then s.tracker.interval.getD s.tracker.period else s.tracker.period := by
  rw [acceptPulse_tracker]
  exact timePulse_tracking hs home

/-- R11, R14: in STALLED the pulse brings Pnom and clears the timed flag. -/
theorem State.acceptPulse_stalled (hs : s.tracker.state = .stalled) (home : Bool) :
    (s.acceptPulse home).tracker.timed = false ∧ (s.acceptPulse home).tracker.period = s.cfg.periodNominal := by
  rw [acceptPulse_tracker]
  exact timePulse_stalled hs home

/-- R7 to R9, R13: an accepted pulse in TRACKING. -/
theorem exec_pulse_tracking (hl : s.loaded) (hedge : s.tracker.cpFilter.admitsEdge = true)
    (hi : ∀ n, s.tracker.interval = some n → s.cfg.periodMin ≤ n) (hs : s.tracker.state = .tracking) (home : Bool) :
    ∃ t, exec (.cpQualification home) s = .next t ∧ s.Numbers home t ∧ t.tracker.timed = true ∧ t.tracker.period =
      if s.tracker.timed = true then s.tracker.interval.getD s.tracker.period else s.tracker.period :=
  ⟨_, exec_cpQualification_accepted hl hedge hi home, State.acceptPulse_numbers (by simp [hs]) home,
    State.acceptPulse_tracking (s := s.setFilter .cp .held) hs home⟩

/-- R11, R14: an accepted pulse in STALLED. -/
theorem exec_pulse_stalled (hl : s.loaded) (hedge : s.tracker.cpFilter.admitsEdge = true)
    (hi : ∀ n, s.tracker.interval = some n → s.cfg.periodMin ≤ n) (hs : s.tracker.state = .stalled) (home : Bool) :
    ∃ t, exec (.cpQualification home) s = .next t ∧ s.Numbers home t ∧ t.tracker.timed = false
      ∧ t.tracker.period = s.cfg.periodNominal :=
  ⟨_, exec_cpQualification_accepted hl hedge hi home, State.acceptPulse_numbers (by simp [hs]) home,
    State.acceptPulse_stalled (s := s.setFilter .cp .held) hs home⟩

/-- Settles O14: the pulse numbers its carrier, and P takes the interval that the timed flag admits. -/
theorem pulseInTrackingNumbersAndTimes : Obligations.PulseInTrackingNumbersAndTimes := by
  intro s here home hl hedge hi hs hhere _
  obtain ⟨t, hexec, hnumbers, htimed, hperiod⟩ := exec_pulse_tracking hl hedge hi hs home
  obtain ⟨hframe, htracker, hhanded, hslip, hslips, hmissed, hmissing, hcounter, hflag⟩ := hnumbers
  simp only [State.advanced_of_slotHere hhere] at htracker hhanded hslip hslips hmissed
  refine ⟨t, hexec, hframe, by rw [htracker], by rw [htracker], htimed, by rw [htracker], by rw [htracker],
    by rw [htracker], ?_, by rw [htracker]; rfl, hhanded, hslip, hslips, hmissed, hmissing, hcounter, hflag⟩
  rw [hperiod]
  cases s.tracker.timed <;> cases s.tracker.interval <;> rfl

/-! ### The stall (R10, R11) -/

theorem exec_stall (hs : s.tracker.state = .tracking) (hi : s.tracker.interval = some stallLimit) :
    exec .stall s = .next { s with tracker := { s.tracker with state := .stalled } } :=
  congrArg Host.Outcome.next (if_pos ⟨hs, hi⟩)

theorem exec_stall_of_interval_ne (hi : s.tracker.interval ≠ some stallLimit) : exec .stall s = .next s :=
  congrArg Host.Outcome.next (if_neg fun h => hi h.2)

/-- R11: of a pulse and a stall due together, the pulse taken first is timed and restarts the interval, so that the
stall does not occur. -/
theorem pulse_before_stall (hl : s.loaded) (hedge : s.tracker.cpFilter.admitsEdge = true)
    (hi : ∀ n, s.tracker.interval = some n → s.cfg.periodMin ≤ n) (hs : s.tracker.state = .tracking)
    (hstall : s.tracker.interval = some stallLimit) (htimed : s.tracker.timed = true) (home : Bool) :
    ∃ t, exec (.cpQualification home) s = .next t ∧ t.tracker.state = .tracking ∧ t.tracker.period = stallLimit
      ∧ t.tracker.interval = some 0 ∧ exec .stall t = .next t := by
  obtain ⟨t, hexec, hnumbers, -, hperiod⟩ := exec_pulse_tracking hl hedge hi hs home
  have hzero : t.tracker.interval = some 0 := by rw [hnumbers.tracker]
  refine ⟨t, hexec, by rw [hnumbers.tracker], ?_, hzero, exec_stall_of_interval_ne (by simp [hzero, stallLimit])⟩
  rw [hperiod, if_pos htimed, hstall, Option.getD_some]

/-- R11: of the two, the stall taken first is left by the pulse with P at Pnom. -/
theorem stall_before_pulse (hl : s.loaded) (hedge : s.tracker.cpFilter.admitsEdge = true)
    (hi : ∀ n, s.tracker.interval = some n → s.cfg.periodMin ≤ n) (hs : s.tracker.state = .tracking)
    (hstall : s.tracker.interval = some stallLimit) (home : Bool) :
    ∃ m t, exec .stall s = .next m ∧ m.tracker.state = .stalled ∧ exec (.cpQualification home) m = .next t
      ∧ t.tracker.state = .tracking ∧ t.tracker.period = s.cfg.periodNominal ∧ t.tracker.timed = false := by
  obtain ⟨t, hexec, hnumbers, htimed, hperiod⟩ :=
    exec_pulse_stalled (s := { s with tracker := { s.tracker with state := .stalled } }) hl hedge hi rfl home
  exact ⟨_, t, exec_stall hs hstall, rfl, hexec, by rw [hnumbers.tracker], hperiod, htimed⟩

/-- Settles O15: the stall, the return from it, and both orders of stall and pulse. -/
theorem stallAndTheReturnFromIt : Obligations.StallAndTheReturnFromIt := by
  refine ⟨fun s => exec_stall, fun s here home hl hedge hi hs hhere => ?_, fun s home hl hedge hmin hs hstall => ?_⟩
  · obtain ⟨t, hexec, hnumbers, htimed, hperiod⟩ := exec_pulse_stalled hl hedge hi hs home
    obtain ⟨hframe, htracker, hhanded, hslip, hslips, hmissed, hmissing, hcounter, hflag⟩ := hnumbers
    simp only [State.advanced_of_slotHere hhere, htimed, hperiod] at htracker hhanded hslip hslips hmissed
    exact ⟨t, hexec, htracker, hhanded, hslip, hslips, hmissed, hmissing, hcounter, hflag, hframe⟩
  · have hi : ∀ n, s.tracker.interval = some n → s.cfg.periodMin ≤ n := by
      rw [hstall]
      rintro n ⟨⟩
      exact hmin
    exact ⟨fun htimed => pulse_before_stall hl hedge hi hs hstall htimed home,
      stall_before_pulse hl hedge hi hs hstall home⟩

end Sys2Proof.Machine
end

section
namespace Sys2Proof.Machine

variable {s : State}

/-! ### What has fallen due, condition by condition -/

theorem Filter.due_iff {width : Ticks} {f : Filter} : f.due width = true ↔ ∃ n, f = .qualifying n ∧ width ≤ n := by
  cases f <;> simp [Filter.due]

theorem holdDue_iff {f : HoldFilter} : holdDue f = true ↔ ∃ n, f = .changing n ∧ panelWidth ≤ n := by
  cases f <;> simp [holdDue]

theorem State.gapDue_iff {st : LineState} : s.gapDue st = true ↔ s.bus.state = st ∧ gapMicros s.cfg ≤ s.bus.gap :=
  decide_eq_true_iff

theorem State.mayOffer_iff : s.mayOffer = true ↔ s.offersAccepted ∧ s.flag .txFault = false ∧ s.bus.queue ≠ [] := by
  simp [State.mayOffer, and_assoc]

theorem State.retryDue_iff : s.retryDue = true ↔ ∃ attempt, s.loader.memory = .retryWait attempt 0 := by
  unfold State.retryDue
  split <;> simp_all

theorem State.responseDue_iff : s.responseDue = true ↔
    ∃ timer clocking position, s.gauge.port = .awaiting timer clocking position ∧ s.cfg.responseLimit ≤ timer := by
  unfold State.responseDue
  split <;> simp_all

theorem State.scanIsDue_iff : s.scanIsDue = true ↔ ∃ w, s.gauge.window = some w ∧ w.nextScan < s.cfg.scanCount
    ∧ w.period * (s.cfg.scanStart + w.nextScan * s.cfg.scanStep) / 256 ≤ w.elapsed := by
  unfold State.scanIsDue
  split
  · simp_all
  · next w hw =>
    simp only [hw, Option.some.injEq, exists_eq_left']
    exact decide_eq_true_iff

theorem State.windowDue_iff : s.windowDue = true ↔ ∃ w, s.release.window = some w ∧ w.left = 0 := by
  unfold State.windowDue
  split <;> simp_all

/-! ### The first that is due -/

theorem mem_of_firstDue {l : List (Bool × Instr)} {c : Instr} (h : firstDue l = some c) : (true, c) ∈ l := by
  induction l with
  | nil => cases h
  | cons x rest ih =>
    obtain ⟨isDue, d⟩ := x
    unfold firstDue at h
    split at h
    case isTrue hdue =>
      cases h
      exact hdue ▸ List.mem_cons_self
    case isFalse => exact List.mem_cons_of_mem _ (ih h)

theorem firstDue_ne_none {l : List (Bool × Instr)} {c : Instr} (h : (true, c) ∈ l) : firstDue l ≠ none := by
  induction l with
  | nil => cases h
  | cons x rest ih =>
    obtain ⟨isDue, d⟩ := x
    unfold firstDue
    split
    case isTrue => exact Option.some_ne_none d
    case isFalse hdue =>
      rcases List.mem_cons.mp h with hx | hrest
      · exact absurd (Prod.ext_iff.mp hx).1.symm hdue
      · exact ih hrest

/-! ### What time brings is what has fallen due -/

theorem brought_of_mem_commonDue {c : Instr} (hl : s.loaded) (h : (true, c) ∈ s.commonDue) : Brought s c := by
  simp only [State.commonDue, List.mem_cons, List.not_mem_nil, or_false, Prod.mk.injEq, eq_comm (a := true),
    Bool.and_eq_true, decide_eq_true_eq, Filter.due_iff, State.gapDue_iff, State.mayOffer_iff] at h
  rcases h with ⟨⟨n, hf, hn⟩, rfl⟩ | ⟨⟨n, hf, hn⟩, rfl⟩ | ⟨⟨hs, hi⟩, rfl⟩ | ⟨⟨hm, ha⟩, rfl⟩ | ⟨⟨hb, hg⟩, rfl⟩
    | ⟨⟨hb, hg⟩, rfl⟩ | ⟨⟨hb, ho, ht, hq⟩, rfl⟩ | ⟨hf, rfl⟩
  · exact .cpQualification n hl hf hn
  · exact .ackPress n hl hf hn
  · exact .stall hl hs hi
  · exact .announceTimerExpiry hm ha
  · exact .idleGapComplete hl hb hg
  · exact .stuckExit hl hb hg
  · exact .contentionWindow hb ho ht hq
  · exact .lampFlashToggle hl hf

theorem brought_of_mem_gaugeDue {c : Instr} (hl : s.gaugeLoaded) (h : (true, c) ∈ s.gaugeDue) : Brought s c := by
  simp only [State.gaugeDue, List.mem_cons, List.not_mem_nil, or_false, Prod.mk.injEq, eq_comm (a := true),
    Filter.due_iff, State.responseDue_iff, State.scanIsDue_iff] at h
  rcases h with ⟨⟨n, hf, hn⟩, rfl⟩ | ⟨⟨timer, clocking, position, hp, ht⟩, rfl⟩ | ⟨⟨w, hw, hn, ht⟩, rfl⟩
  · exact .lotPress n hl hf hn
  · exact .responseLimitExpiry timer clocking position hl hp ht
  · exact .scanDue w hl hw hn ht

theorem brought_of_mem_dropDue {c : Instr} (hl : s.dropLoaded) (h : (true, c) ∈ s.dropDue) : Brought s c := by
  simp only [State.dropDue, List.mem_cons, List.not_mem_nil, or_false, Prod.mk.injEq, eq_comm (a := true),
    Bool.and_eq_true, Bool.not_eq_true', decide_eq_true_eq, Filter.due_iff, holdDue_iff, State.windowDue_iff] at h
  rcases h with ⟨⟨n, hf, hn⟩, rfl⟩ | ⟨⟨n, hf, hn⟩, rfl⟩ | ⟨⟨n, hf, hn⟩, rfl⟩ | ⟨⟨⟨n, hf, hn⟩, hh⟩, rfl⟩
    | ⟨⟨⟨n, hf, hn⟩, hh⟩, rfl⟩ | ⟨hs, rfl⟩ | ⟨⟨hd, ht⟩, rfl⟩ | ⟨⟨hr, ht⟩, rfl⟩ | ⟨⟨w, hw, ht⟩, rfl⟩ | ⟨⟨hp, ht⟩, rfl⟩
    | ⟨⟨hp, ht⟩, rfl⟩ | ⟨⟨hp, ht⟩, rfl⟩
  · exact .filteredGateEdge n hl hf hn
  · exact .clear .a n hl hf hn
  · exact .clear .b n hl hf hn
  · exact .holdAssertion n hl hf hn hh
  · exact .holdRelease n hl hf hn hh
  · exact .flapSettleExpiry hl hs
  · exact .delayExpiry hl (Option.isSome_iff_ne_none.mp hd) ht
  · exact .pulseEndExpiry hl hr ht
  · exact .confirmationWindowExpiry w hl hw ht
  · exact .recordShifted hl hp ht
  · exact .ackLimitExpiry hl hp ht
  · exact .tieLimitExpiry hl hp ht

theorem brought_of_due {c : Instr} (h : s.due = some c) : Brought s c := by
  unfold State.due at h
  split_ifs at h with hl hm
  · rcases List.mem_append.mp (mem_of_firstDue h) with hcommon | hrole
    · exact brought_of_mem_commonDue hl hcommon
    · unfold State.roleDue at hrole
      split at hrole
      · next hr => exact brought_of_mem_gaugeDue ⟨hr, hl⟩ hrole
      · next hr => exact brought_of_mem_dropDue ⟨hr, hl⟩ hrole
      · cases hrole
  · obtain ⟨hm, hdue⟩ := hm
    obtain ⟨attempt, hw⟩ := State.retryDue_iff.mp hdue
    cases h
    exact .retryWaitExpiry attempt hm hw

theorem due_ne_none_of_common (c : Instr) (hl : s.loaded) (h : (true, c) ∈ s.commonDue) : s.due ≠ none := by
  rw [State.due, if_pos hl]
  exact firstDue_ne_none (List.mem_append_left _ h)

theorem due_ne_none_of_gauge (c : Instr) (hl : s.gaugeLoaded) (h : (true, c) ∈ s.gaugeDue) : s.due ≠ none := by
  rw [State.due, if_pos hl.2, State.roleDue, hl.1]
  exact firstDue_ne_none (List.mem_append_right _ h)

theorem due_ne_none_of_drop (c : Instr) (hl : s.dropLoaded) (h : (true, c) ∈ s.dropDue) : s.due ≠ none := by
  rw [State.due, if_pos hl.2, State.roleDue, hl.1]
  exact firstDue_ne_none (List.mem_append_right _ h)

theorem due_of_brought {c : Instr} (h : Brought s c) : s.due ≠ none := by
  cases h with
  | retryWaitExpiry attempt hm hw =>
    have hn := State.not_loaded_iff.mpr (.inl hm)
    have hdue : s.retryDue = true := State.retryDue_iff.mpr ⟨attempt, hw⟩
    rw [State.due, if_neg hn, if_pos ⟨hm, hdue⟩]
    exact Option.some_ne_none _
  | cpQualification n hl hf hn =>
    exact due_ne_none_of_common (.cpQualification (Config.homeMarkLevel s.now))
      hl (by simp [State.commonDue, Filter.due_iff, hf, hn])
  | ackPress n hl hf hn =>
    exact due_ne_none_of_common .ackPress hl (by simp [State.commonDue, Filter.due_iff, panelWidth, hf, hn])
  | stall hl hs hi => exact due_ne_none_of_common .stall hl (by simp [State.commonDue, stallLimit, hs, hi])
  | announceTimerExpiry hm ha =>
    exact due_ne_none_of_common .announceTimerExpiry (.inl hm) (by simp [State.commonDue, hm, ha])
  | idleGapComplete hl hb hg =>
    exact due_ne_none_of_common .idleGapComplete hl (by simp [State.commonDue, State.gapDue_iff, hb, hg])
  | stuckExit hl hb hg =>
    exact due_ne_none_of_common .stuckExit hl (by simp [State.commonDue, State.gapDue_iff, hb, hg])
  | contentionWindow hb ho ht hq =>
    exact due_ne_none_of_common .contentionWindow (State.loaded_of_offersAccepted ho)
      (by simp [State.commonDue, State.mayOffer_iff, hb, ho, ht, hq])
  | lampFlashToggle hl hf => exact due_ne_none_of_common .lampFlashToggle hl (by simp [State.commonDue, hf])
  | lotPress n hl hf hn =>
    exact due_ne_none_of_gauge .lotPress hl (by simp [State.gaugeDue, Filter.due_iff, panelWidth, hf, hn])
  | responseLimitExpiry timer clocking position hl hp ht =>
    exact due_ne_none_of_gauge .responseLimitExpiry hl (by simp [State.gaugeDue, State.responseDue_iff, hp, ht])
  | scanDue w hl hw hn ht =>
    exact due_ne_none_of_gauge (.scanDue (Config.scanReadyLevel s.now))
      hl (by simp [State.gaugeDue, State.scanIsDue_iff, hw, hn, ht])
  | filteredGateEdge n hl hf hn =>
    exact due_ne_none_of_drop .filteredGateEdge hl (by simp [State.dropDue, Filter.due_iff, hf, hn])
  | clear c n hl hf hn =>
    have hdue : (s.clearFilter c).due panelWidth = true := Filter.due_iff.mpr ⟨n, hf, hn⟩
    cases c with
    | a => exact due_ne_none_of_drop (.clear .a) hl (by simp [State.dropDue, show s.cradles.clrA.due _ = _ from hdue])
    | b => exact due_ne_none_of_drop (.clear .b) hl (by simp [State.dropDue, show s.cradles.clrB.due _ = _ from hdue])
  | holdAssertion n hl hf hn hh =>
    exact due_ne_none_of_drop .holdAssertion hl (by simp [State.dropDue, holdDue_iff, panelWidth, hf, hn, hh])
  | holdRelease n hl hf hn hh =>
    exact due_ne_none_of_drop .holdRelease hl (by simp [State.dropDue, holdDue_iff, panelWidth, hf, hn, hh])
  | flapSettleExpiry hl hs => exact due_ne_none_of_drop .flapSettleExpiry hl (by simp [State.dropDue, hs])
  | delayExpiry hl hd ht =>
    exact due_ne_none_of_drop .delayExpiry hl (by simp [State.dropDue, Option.isSome_iff_ne_none, hd, ht])
  | pulseEndExpiry hl hr ht => exact due_ne_none_of_drop .pulseEndExpiry hl (by simp [State.dropDue, hr, ht])
  | confirmationWindowExpiry w hl hw ht =>
    exact due_ne_none_of_drop .confirmationWindowExpiry hl (by simp [State.dropDue, State.windowDue_iff, hw, ht])
  | recordShifted hl hp ht => exact due_ne_none_of_drop .recordShifted hl (by simp [State.dropDue, hp, ht])
  | ackLimitExpiry hl hp ht => exact due_ne_none_of_drop .ackLimitExpiry hl (by simp [State.dropDue, hp, ht])
  | tieLimitExpiry hl hp ht => exact due_ne_none_of_drop .tieLimitExpiry hl (by simp [State.dropDue, hp, ht])

/-! ### One tick -/

theorem Filter.tick_eq_widened (width : Ticks) (f : Filter) : f.tick width = widened width f := by
  cases f <;> rfl

theorem countDown_eq_lowered (timer : Option Ticks) : countDown timer = lowered timer := by
  cases timer <;> rfl

theorem tickLineBus_eq (now : Nat) (b : LineBus) : tickLineBus now b = { b with
    gap := if b.state = .waitGap ∨ b.state = .stuck then (if Config.lineDominantLevel now = true then 0 else b.gap + 10)
      else b.gap } := by
  unfold tickLineBus
  split <;> rfl

/-- What a tick does, block by block. -/
theorem State.tick_eq (s : State) : s.tick = { s with
    loader := { s.loader with
      announce := lowered s.loader.announce, memory := (tickLoader s.loader).memory }
    tracker := { s.tracker with
      interval := s.tracker.interval.map (fun n => min (n + 1) 262143)
      cpFilter := widened s.cfg.cpWidth s.tracker.cpFilter
      gateFilter := widened s.cfg.gateWidth s.tracker.gateFilter }
    bus := tickLineBus s.now s.bus
    gauge := { s.gauge with
      port := tickPort s.cfg.responseLimit s.gauge.port
      window := s.gauge.window.map (fun w => { w with elapsed := w.elapsed + 1 })
      lotFilter := widened 2000 s.gauge.lotFilter }
    engine := { s.engine with holdFilter := tickHold s.engine.holdFilter }
    cradles := { s.cradles with clrA := widened 2000 s.cradles.clrA, clrB := widened 2000 s.cradles.clrB }
    release := { s.release with
      delayTimer := lowered s.release.delayTimer
      pulseTimer := lowered s.release.pulseTimer
      window := s.release.window.map (fun w => { w with left := w.left - 1 })
      settle := lowered s.release.settle }
    tie := { s.tie with limit := lowered s.tie.limit, shift := lowered s.tie.shift }
    status := { s.status with
      ackFilter := widened 2000 s.status.ackFilter
      flash := lowered s.status.flash }
    now := s.now + 1 } := by
  simp only [State.tick, tickLoader, tickTracker, tickGauge, tickCradles, tickRelease, tickTie, tickStatus,
    Filter.tick_eq_widened, countDown_eq_lowered, panelWidth, stallLimit]

/-! ### The step -/

theorem step_takes_handed {c : Instr} {rest : List Instr} (hp : s.pending = []) (hh : s.handed = c :: rest) :
    step s = exec c s := by
  simp [step, State.idleStep, hp, hh]

theorem step_takes_due {c : Instr} (hp : s.pending = []) (hh : s.handed = []) (hd : s.due = some c) :
    step s = exec c s := by
  simp [step, State.idleStep, hp, hh, hd]

theorem step_ticks (hp : s.pending = []) (hh : s.handed = []) (hd : s.due = none) : step s = .next s.tick := by
  simp [step, State.idleStep, hp, hh, hd]

/-- Settles O2: what has fallen due is what time brings, and with nothing due the step is a tick. -/
theorem stepWithNoCommandWaiting : Obligations.StepWithNoCommandWaiting := by
  intro s hp
  refine ⟨fun c rest => step_takes_handed hp, fun c => step_takes_due hp, step_ticks hp, ?_, ?_⟩
  · rintro hh ⟨c, hc⟩
    obtain ⟨d, hd⟩ := Option.ne_none_iff_exists'.mp (due_of_brought hc)
    exact ⟨d, brought_of_due hd, step_takes_due hp hh hd⟩
  · intro hh hnone
    have hd : s.due = none := Option.eq_none_iff_forall_ne_some.mpr fun c hc => hnone c (brought_of_due hc)
    rw [step_ticks hp hh hd, State.tick_eq, tickLineBus_eq]
    rfl

end Sys2Proof.Machine
end


section
/-! SUPPORT. Proofs of the statements on the line bus: the order of the transmit queue under every operation that
touches it, the end of a contention, heard frames, removal requests and deadlines, and a frame's characters. -/

namespace Sys2Proof.Machine

variable {s t : State}

/-! ### Sound lists of frames -/

/-- R30 for the frames alone: what befalls a frame while it is queued does not matter to it. -/
def FramesSound (frames : List Frame) : Prop :=
  frames.length ≤ queueCapacity ∧ frames.Pairwise (fun x y => y.value ≤ x.value)
    ∧ (frames.filterMap (fun f => claimSlot f.body)).Nodup

/-- The frames of the queue, in its order. -/
def LineBus.frames (b : LineBus) : List Frame := b.queue.map (fun q => q.frame)

theorem State.queueSound_iff : s.queueSound ↔ FramesSound s.bus.frames := by
  simp [State.queueSound, FramesSound, LineBus.frames, List.pairwise_map, List.filterMap_map]

theorem FramesSound.sublist {frames rest : List Frame} (h : FramesSound frames) (hs : rest.Sublist frames) :
    FramesSound rest := by
  obtain ⟨hlen, hord, hnodup⟩ := h
  exact ⟨hs.length_le.trans hlen, hord.sublist hs, hnodup.sublist (hs.filterMap _)⟩

/-- A queue from which frames may have left and which none has joined stays sound. -/
theorem State.queueSound.of_sublist (hs : s.queueSound) (h : t.bus.frames.Sublist s.bus.frames) : t.queueSound :=
  queueSound_iff.mpr ((queueSound_iff.mp hs).sublist h)

theorem State.queueSound.of_queue (hs : s.queueSound) (h : t.bus.queue = s.bus.queue) : t.queueSound :=
  hs.of_sublist (by rw [LineBus.frames, LineBus.frames, h])

theorem State.queueSound_of_empty (h : s.bus.queue = []) : s.queueSound := by
  simp [State.queueSound, h]

theorem queueSound_ite {p : Prop} [Decidable p] {a b : State} (ha : p → a.queueSound)
    (hb : ¬ p → b.queueSound) : (if p then a else b).queueSound := by
  split
  case isTrue hp => exact ha hp
  case isFalse hp => exact hb hp

/-! ### Joining at its place -/

/-- R30: into a descending queue a frame goes below those of its value or more and above the others. -/
theorem insertByValue_eq_append (q : QueuedFrame) {l : List QueuedFrame}
    (h : l.Pairwise (fun x y => y.frame.value ≤ x.frame.value)) :
    ∃ before after, l = before ++ after ∧ (∀ x ∈ before, q.frame.value ≤ x.frame.value)
      ∧ (∀ x ∈ after, x.frame.value < q.frame.value) ∧ insertByValue q l = before ++ q :: after := by
  induction l with
  | nil => exact ⟨[], [], rfl, by simp, by simp, rfl⟩
  | cons x rest ih =>
    obtain ⟨hx, hrest⟩ := List.pairwise_cons.mp h
    unfold insertByValue
    split
    case isTrue hlt =>
      refine ⟨[], x :: rest, rfl, by simp, fun y hy => ?_, rfl⟩
      rcases List.mem_cons.mp hy with rfl | hy
      · exact hlt
      · exact (hx y hy).trans_lt hlt
    case isFalse hle =>
      obtain ⟨before, after, rfl, hbefore, hafter, hins⟩ := ih hrest
      exact ⟨x :: before, after, rfl, by simpa using ⟨Nat.le_of_not_lt hle, hbefore⟩, hafter, by rw [hins]; rfl⟩

theorem insertByValue_pairwise (q : QueuedFrame) {l : List QueuedFrame}
    (h : l.Pairwise (fun x y => y.frame.value ≤ x.frame.value)) :
    (insertByValue q l).Pairwise (fun x y => y.frame.value ≤ x.frame.value) := by
  obtain ⟨before, after, rfl, hbefore, hafter, hins⟩ := insertByValue_eq_append q h
  obtain ⟨hb, ha, hba⟩ := List.pairwise_append.mp h
  rw [hins]
  refine List.pairwise_append.mpr ⟨hb, List.pairwise_cons.mpr ⟨fun y hy => (hafter y hy).le, ha⟩, fun x hx y hy => ?_⟩
  rcases List.mem_cons.mp hy with rfl | hy
  · exact hbefore x hx
  · exact hba x hx y hy

/-- A frame joins a sound queue that has room and no CLAIM for its slot. -/
theorem State.queueSound.enqueue (hs : s.queueSound) {f : Frame} (hroom : s.bus.queue.length < queueCapacity)
    (hslot : ∀ slot, claimSlot f.body = some slot → claimQueued s.bus.queue slot = false) :
    (s.enqueue f).queueSound := by
  obtain ⟨-, hord, hnodup⟩ := hs
  have hperm := insertByValue_perm (newQueued s.cfg f) s.bus.queue
  refine ⟨by simpa [insertByValue_length] using hroom, insertByValue_pairwise _ hord, ?_⟩
  rw [enqueue_bus, (hperm.filterMap _).nodup_iff]
  cases hf : claimSlot f.body with
  | none => simpa [newQueued, hf] using hnodup
  | some slot =>
    have hnot := hslot slot hf
    simp only [claimQueued, isClaimFor, List.any_eq_false, beq_iff_eq] at hnot
    simpa [newQueued, hf] using ⟨hnot, hnodup⟩

/-! ### Eviction -/

theorem exists_mem_of_lastEvictable {queue : List QueuedFrame} {slot : Slot} (h : lastEvictable queue = some slot) :
    ∃ q ∈ queue, isClaimFor slot q.frame.body = true := by
  induction queue with
  | nil => cases h
  | cons q rest ih =>
    unfold lastEvictable at h
    split at h
    · next found =>
      cases h
      obtain ⟨x, hx, hclaim⟩ := ih found
      exact ⟨x, List.mem_cons_of_mem _ hx, hclaim⟩
    · split at h
      · cases h
      · exact ⟨q, List.mem_cons_self, by simp [isClaimFor, h]⟩

/-- R31: the CLAIM evicted makes the room for the frame that is no CLAIM. -/
theorem State.queueSound.evictFor (hs : s.queueSound) {f : Frame} {slot : Slot} (hf : claimSlot f.body = none)
    (he : lastEvictable s.bus.queue = some slot) : (s.evictFor slot f).queueSound := by
  have hleft : (s.dequeueClaim slot).queueSound := hs.of_sublist (List.filter_sublist.map _)
  obtain ⟨q, hq, hclaim⟩ := exists_mem_of_lastEvictable he
  have hshort : (s.dequeueClaim slot).bus.queue.length < s.bus.queue.length :=
    List.length_filter_lt_length_iff_exists.mpr ⟨q, hq, by simp [hclaim]⟩
  exact State.queueSound.enqueue (s := ((s.dequeueClaim slot).bump .framesDropped).hand (.claimOutcome slot .evicted))
    hleft (hshort.trans_le hs.1) (by simp [hf])

/-- R31: every answer to an offer leaves a sound queue sound. -/
theorem State.queueSound.offer (hs : s.queueSound) (f : Frame) : (s.offer f).2.queueSound := by
  rcases s.offer_cases f with h | ⟨-, hroom, h, hslot⟩ | ⟨slot, -, -, hf, he, h⟩ | ⟨-, -, -, -, h⟩ <;> rw [h]
  · exact hs
  · exact hs.enqueue hroom hslot
  · exact hs.evictFor hf he
  · exact hs.of_queue rfl

theorem State.queueSound.offered (hs : s.queueSound) (f : Frame) : (s.offered f).queueSound := hs.offer f

/-! ### The bus under the answers to a removal request -/

/-- The answer to a request held back is all that the end of its wait leaves on the bus (R30, R33). -/
theorem State.answerHeld_bus (answer : RemovalAnswer) : (s.answerHeld answer).bus = { s.bus with
    removalHeld := none
    removalAnswer := match s.bus.removalHeld with
      | none => s.bus.removalAnswer
      | some body => some ⟨body, answer⟩ } := by
  cases h : s.bus.removalHeld with
  | none =>
    have hbus : s.bus = { s.bus with removalHeld := s.bus.removalHeld } := rfl
    rw [s.answerHeld_none answer h, hbus, h]
  | some body => rw [s.answerHeld_some answer body h]

theorem State.answerLeft_bus (answer : RemovalAnswer) (body : FrameBody) :
    (s.answerLeft answer body).bus = (s.answerHeld answer).bus := by
  unfold State.answerLeft
  split <;> simp

theorem State.answerSending_bus (body : FrameBody) :
    (s.answerSending body).bus = (s.answerHeld .inTransmission).bus := by
  unfold State.answerSending
  split <;> simp

@[simp] theorem State.answerLeft_queue (answer : RemovalAnswer) (body : FrameBody) :
    (s.answerLeft answer body).bus.queue = s.bus.queue := by
  rw [answerLeft_bus, answerHeld_bus]

@[simp] theorem State.answerSending_queue (body : FrameBody) : (s.answerSending body).bus.queue = s.bus.queue := by
  rw [answerSending_bus, answerHeld_bus]

theorem holdRemoval_frame (body : FrameBody) (q : QueuedFrame) : (holdRemoval body q).frame = q.frame := by
  unfold holdRemoval
  split <;> rfl

theorem State.requestRemoval_frames (body : FrameBody) :
    (s.requestRemoval body).2.bus.frames.Sublist s.bus.frames := by
  unfold LineBus.frames
  rcases s.requestRemoval_queue body with ⟨-, hq, -⟩ | ⟨-, hq, -⟩ | ⟨-, hq, -⟩ <;> rw [hq]
  · exact List.eraseP_sublist.map _
  · simp [Function.comp_def, holdRemoval_frame]

/-! ### The line's own operations -/

/-- R22: a lost contention takes at most its own frame out. -/
theorem State.loseContention_frames : s.loseContention.bus.frames.Sublist s.bus.frames := by
  unfold State.loseContention LineBus.frames
  split
  · exact .refl _
  · split
    · simp [Function.comp_def]
    all_goals simpa using List.eraseP_sublist.map _

@[simp] theorem State.spoilFrame_bus (body : FrameBody) :
    (s.spoilFrame body).bus = { s.bus with spoilRun := min (s.bus.spoilRun + 1) spoilLimit } := by
  unfold State.spoilFrame
  dsimp only
  split <;> rfl

@[simp] theorem State.spoilSending_queue : s.spoilSending.bus.queue = s.bus.queue := by
  unfold State.spoilSending
  split <;> simp

@[simp] theorem State.acceptFrame_queue (f : Frame) : (s.acceptFrame f).bus.queue = s.bus.queue := by
  unfold State.acceptFrame
  (repeat' split) <;> simp

@[simp] theorem State.hearFrame_queue (own : Bool) (f : Frame) : (s.hearFrame own f).bus.queue = s.bus.queue := by
  unfold State.hearFrame
  (repeat' split) <;> simp

theorem contendHead_frames (queue : List QueuedFrame) :
    (contendHead queue).map (fun q => q.frame) = queue.map (fun q => q.frame) := by
  cases queue <;> rfl

/-! ### Deadlines -/

theorem raiseCount_frame (q : QueuedFrame) : (raiseCount q).frame = q.frame := by
  obtain ⟨⟨value, body⟩, deadline, count, contended, event⟩ := q
  cases body <;> rfl

theorem holdExpiry_frame (chain : Nat) (here : Slot) (q : QueuedFrame) : (holdExpiry chain here q).frame = q.frame := by
  unfold holdExpiry
  split <;> rfl

/-- A walk that expires frames touches the arrivals and one counter. -/
theorem foldl_expire (l : List QueuedFrame) (s : State) :
    (l.foldl (fun t q => t.expire q.frame.body) s).bus = s.bus :=
  foldl_keeps (fun t : State => t.bus = s.bus) _ (fun t q h => by simpa using h) l s rfl

theorem State.takeCarrierNotice_frames (here : Slot) :
    (s.takeCarrierNotice here).bus.frames.Sublist s.bus.frames := by
  simp only [State.takeCarrierNotice, LineBus.frames, foldl_expire, List.map_map, Function.comp_def, holdExpiry_frame]
  refine (List.filter_sublist.map _).trans ?_
  simp [Function.comp_def, raiseCount_frame]

/-! ### The Flight Table and the Claim Engine at the queue -/

theorem State.withdrawNow_bus (slot : Slot) (c : CradleId) (target : WithdrawalTarget) :
    (s.withdrawNow slot c target).bus = s.bus := by
  cases target <;> rfl

/-- R74: a withdrawal asks the queue for its CLAIM once, and touches it no further. -/
theorem State.withdraw_frames (slot : Slot) (w : Withdrawal) :
    (s.withdraw slot w).bus.frames.Sublist s.bus.frames := by
  by_cases h : ∃ e c y a, s.entry? slot = some e ∧ e.state = .tentative c y a
  · obtain ⟨e, c, y, a, he, hst⟩ := h
    have hasked := s.requestRemoval_frames (.claim slot c)
    rcases s.withdraw_cases slot w he hst with ⟨target, hw⟩ | ⟨-, y', a', hw⟩ <;> rw [hw]
    · rwa [withdrawNow_bus]
    · exact hasked
  · rw [s.withdraw_other slot w fun e he c y a hst => h ⟨e, c, y, a, he, hst⟩]

theorem State.queueSound.withdraw (hs : s.queueSound) (slot : Slot) (w : Withdrawal) :
    (s.withdraw slot w).queueSound :=
  hs.of_sublist (withdraw_frames slot w)

@[simp] theorem State.ownClaim_bus (slot : Slot) (st : EntryState) : (s.ownClaim slot st).bus = s.bus := by
  unfold State.ownClaim
  split <;> simp

theorem State.queueSound.peerClaim (hs : s.queueSound) (slot : Slot) (sender : Nat) (st : EntryState) :
    (s.peerClaim slot sender st).queueSound := by
  cases st with
  | tentative c y a => exact hs.withdraw slot _
  | unclaimed | mine c | other n | yielded | released => exact hs.of_queue rfl

theorem State.queueSound.judgeClaim (hs : s.queueSound) (slot : Slot) (sender : Nat) :
    (s.judgeClaim slot sender).queueSound := by
  unfold State.judgeClaim
  split
  · exact hs
  · exact queueSound_ite (fun _ => hs.of_queue (by simp)) fun _ => hs.peerClaim slot sender _

theorem State.queueSound.passEvent (hs : s.queueSound) (period : Ticks) (e : FlightEntry) :
    (s.passEvent period e).queueSound := by
  unfold State.passEvent
  split
  case h_2 => exact hs.withdraw e.slot _
  all_goals exact hs.of_queue rfl

theorem State.queueSound.slipRemoval (hs : s.queueSound) (e : FlightEntry) : (s.slipRemoval e).queueSound := by
  unfold State.slipRemoval
  split
  case h_2 => exact hs.withdraw e.slot _
  all_goals exact hs.of_queue rfl

theorem State.queueSound.giveBack (hs : s.queueSound) (reason : YieldReason) (e : FlightEntry) :
    (s.giveBack reason e).queueSound := by
  unfold State.giveBack
  split
  case h_1 => exact hs.withdraw e.slot _
  all_goals exact hs.of_queue rfl

theorem State.queueSound.claimDeadlines (hs : s.queueSound) (here : Slot) : (s.claimDeadlines here).queueSound :=
  foldl_keeps State.queueSound _ (fun _ e ht => ht.withdraw e.slot _) _ s hs

theorem State.queueSound.ordinaryArrival (hs : s.queueSound) (a : Arrival) : (s.ordinaryArrival a).queueSound :=
  ((foldl_keeps State.queueSound _ (fun _ e ht => ht.passEvent a.period e) _ s hs).claimDeadlines a.slotHere).of_queue
    rfl

theorem State.queueSound.slipArrival (hs : s.queueSound) (a : Arrival) : (s.slipArrival a).queueSound :=
  ((foldl_keeps State.queueSound _ (fun _ e ht => ht.slipRemoval e) _ s hs).claimDeadlines a.slotHere).of_queue
    rfl

theorem State.queueSound.giveBackAll (hs : s.queueSound) (reason : YieldReason) : (s.giveBackAll reason).queueSound :=
  foldl_keeps State.queueSound _ (fun _ e ht => ht.giveBack reason e) _ s hs

theorem State.queueSound.giveBackCradle (hs : s.queueSound) (c : CradleId) : (s.giveBackCradle c).queueSound :=
  foldl_keeps State.queueSound _ (fun _ e ht => ht.giveBack .void e) _ s hs

/-- R101: a claim is one offer; what a refusal withdraws is not in the queue. -/
theorem State.queueSound.claim (hs : s.queueSound) (e : FlightEntry) (service : ServiceEntry) (c : CradleId) :
    (s.claim e service c).queueSound := by
  have hreserved : ((s.reserve c e.cls e.lot).setEntry e.slot (.tentative c none none)).queueSound :=
    hs.of_queue (by simp)
  have hoffer := hreserved.offer ⟨claimValue service (s.claimCount c) s.stationId, .claim e.slot c⟩
  unfold State.claim
  dsimp only
  split <;> next answer =>
    rw [answer] at hoffer
    exact hoffer.of_queue (by simp)

theorem State.queueSound.judgeEntry (hs : s.queueSound) (slot : Slot) : (s.judgeEntry slot).queueSound := by
  unfold State.judgeEntry
  split
  · exact hs
  · split
    · exact hs
    · refine queueSound_ite (fun _ => ?_) fun _ => hs
      split
      · exact hs
      · exact queueSound_ite (fun _ => hs.claim _ _ _) fun _ => hs

theorem State.queueSound.runPass (hs : s.queueSound) : s.runPass.queueSound :=
  foldl_keeps State.queueSound _ (fun _ slot ht => ht.judgeEntry slot) _ s hs

/-! ### The Gauge Unit at the queue -/

theorem State.bumpSome_bus (n : Option CounterName) : (s.bumpSome n).bus = s.bus := by
  cases n <;> rfl

theorem State.queueSound.issue (hs : s.queueSound) (slot : Slot) (e : Evaluation) : (s.issue slot e).queueSound := by
  cases e with
  | empty => exact hs.of_queue rfl
  | stem cls length reason =>
    refine queueSound_ite (fun _ => hs.of_queue rfl) fun _ => ?_
    have hcounted : (({ s with gauge := { s.gauge with lastStemSlot := some slot } } : State).bumpSome
        (rejectCounter reason)).queueSound := hs.of_queue (by rw [bumpSome_bus])
    exact hcounted.offered _

theorem State.queueSound.takePress (hs : s.queueSound) : s.takePress.queueSound := by
  unfold State.takePress
  split
  · exact hs.of_queue rfl
  · exact (hs.offered _).of_queue rfl

theorem State.queueSound.closeMeasure (hs : s.queueSound) (w : MeasureWindow) : (s.closeMeasure w).queueSound := by
  have hissued : ((s.issue w.slot (evaluate s.cfg (w.results.map filledResult))).discardWindow).queueSound :=
    (hs.issue _ _).of_queue rfl
  exact queueSound_ite (fun _ => hissued.takePress) fun _ => hissued

theorem State.queueSound.writeResult (hs : s.queueSound) (position : Nat) (r : ScanResult) :
    (s.writeResult position r).queueSound := by
  have hnoted : (s.noteResult r).queueSound := hs.of_queue (by simp)
  unfold State.writeResult
  dsimp only
  split
  · exact hnoted
  · have hwritten (w : Option MeasureWindow) :
        ({ s.noteResult r with gauge := { (s.noteResult r).gauge with window := w } } : State).queueSound :=
      hnoted.of_queue rfl
    unfold State.closeIfFull
    split
    · exact hwritten _
    · exact queueSound_ite (fun _ => (hwritten _).closeMeasure _) fun _ => hwritten _

theorem State.queueSound.takeScan (hs : s.queueSound) (ready : Bool) (w : MeasureWindow) :
    (s.takeScan ready w).queueSound := by
  have hadvanced : (s.advanceScan w).queueSound := hs.of_queue rfl
  unfold State.takeScan
  split
  · exact hs.of_queue rfl
  · exact hadvanced.writeResult _ _

theorem State.queueSound.endScan (hs : s.queueSound) (position : Option Nat) (r : ScanResult) :
    (s.endScan position r).queueSound := by
  have hidle : (s.setPort .idle).queueSound := hs.of_queue rfl
  cases position with
  | none => exact hidle
  | some i => exact hidle.writeResult i r

theorem State.noteCut_bus (results : List (Option ScanResult)) : (s.noteCut results).bus = s.bus :=
  foldl_keeps (fun t : State => t.bus = s.bus) _ (fun t r h => by simp [h]) results s rfl

theorem State.queueSound.cutWindow (hs : s.queueSound) : s.cutWindow.queueSound := by
  unfold State.cutWindow
  split
  · exact hs
  · have hcut (results : List (Option ScanResult)) (p : ScanPort) : ((s.noteCut results).setPort p).queueSound :=
      hs.of_queue (by rw [setPort_bus, noteCut_bus])
    exact (hcut _ _).closeMeasure _

theorem State.workWatch_bus (here : Slot) : (s.workWatch here).bus = s.bus :=
  foldl_keeps (fun t : State => t.bus = s.bus) _ (fun t e h => by simpa using h) _ _ rfl

theorem State.queueSound.pressLot (hs : s.queueSound) : s.pressLot.queueSound := by
  unfold State.pressLot
  split
  · exact hs.of_queue rfl
  · exact hs.takePress

/-! ### The loader at the queue -/

/-- R172, R173: the blocks of the role loaded, a HELLO is offered. -/
theorem State.queueSound.takeRecord (hs : s.queueSound) (role : Role) (cfg : StationConfig) :
    (s.takeRecord role cfg).queueSound := by
  have hloaded : (((((s.loadTracker role cfg).loadLineBus).loadRoleBlocks role).loadStatusPort).beginAnnouncing
      cfg).queueSound := hs.of_queue (by cases role <;> rfl)
  exact hloaded.offered _

theorem State.queueSound.endRead (hs : s.queueSound) (bytes : List Byte) : (s.endRead bytes).queueSound := by
  unfold State.endRead
  split
  case h_1 => exact queueSound_ite (fun _ => hs.takeRecord _ _) fun _ => hs.of_queue rfl
  all_goals exact hs

@[simp] theorem State.missAcknowledge_bus : s.missAcknowledge.bus = s.bus := by
  unfold State.missAcknowledge
  split
  · split <;> rfl
  all_goals rfl

@[simp] theorem State.retryRead_bus : s.retryRead.bus = s.bus := by
  unfold State.retryRead
  split <;> rfl

@[simp] theorem State.takeModeNotice_bus (block : Block) (held : Bool) : (s.takeModeNotice block held).bus = s.bus := by
  cases block <;> simp [State.takeModeNotice]

/-- R37: at the entry to HALTED the queue is emptied. -/
theorem State.queueSound.takeHaltNotice (hs : s.queueSound) (block : Block) (held : Bool) :
    (s.takeHaltNotice block held).queueSound := by
  cases block with
  | lineBus => exact queueSound_of_empty rfl
  | gaugeUnit | flightTable | claimEngine | cradleManager | releaseUnit | tiePort =>
    exact hs.of_queue (by simp [State.takeHaltNotice])

/-! ### The Release Unit at the queue -/

@[simp] theorem State.cancelCleared_bus (c : CradleId) : (s.cancelCleared c).bus = s.bus := by
  unfold State.cancelCleared
  (repeat' split) <;> simp

/-! ### Every command keeps the queue sound -/

theorem execContentionWindow_queueSound (hs : s.queueSound) :
    ∃ t, execContentionWindow s = .next t ∧ t.queueSound := by
  refine ⟨_, rfl, queueSound_ite (fun _ => queueSound_ite (fun _ => ?_) fun _ => hs.of_queue rfl) fun _ => hs⟩
  exact hs.of_sublist (by rw [LineBus.frames, contendHead_frames]; exact .refl _)

theorem execContentionDriveFailed_queueSound (hs : s.queueSound) :
    ∃ t, execContentionDriveFailed s = .next t ∧ t.queueSound := by
  refine ⟨_, rfl, queueSound_ite (fun _ => ?_) fun _ => hs⟩
  split
  · exact hs.of_queue rfl
  · exact hs.of_sublist (by simpa [LineBus.frames] using List.eraseP_sublist.map _)

theorem execContentionWon_queueSound (hs : s.queueSound) : ∃ t, execContentionWon s = .next t ∧ t.queueSound := by
  refine ⟨_, rfl, queueSound_ite (fun _ => ?_) fun _ => hs⟩
  split
  · exact hs.of_queue rfl
  · exact hs.of_sublist (by simpa [LineBus.frames] using List.eraseP_sublist.map _)

theorem execFrameSent_queueSound (hs : s.queueSound) : ∃ t, execFrameSent s = .next t ∧ t.queueSound := by
  refine ⟨_, rfl, queueSound_ite (fun _ => ?_) fun _ => hs⟩
  dsimp only
  split <;> exact hs.of_queue (by simp)

theorem execFrameHeard_queueSound (hs : s.queueSound) (chars : List Byte) :
    ∃ t, execFrameHeard chars s = .next t ∧ t.queueSound := by
  refine ⟨_, rfl, queueSound_ite (fun _ => ?_) fun _ => hs⟩
  split <;> exact hs.of_queue (by simp)

theorem execFrameDiscarded_queueSound (hs : s.queueSound) (cause : DiscardCause) :
    ∃ t, execFrameDiscarded cause s = .next t ∧ t.queueSound := by
  refine ⟨_, rfl, queueSound_ite (fun _ => hs.of_sublist (State.loseContention_frames.trans ?_)) fun _ => hs⟩
  simp [LineBus.frames]

theorem execStuckEntry_queueSound (hs : s.queueSound) : ∃ t, execStuckEntry s = .next t ∧ t.queueSound := by
  refine ⟨_, rfl, ?_⟩
  split
  case h_3 => exact hs.of_sublist (State.loseContention_frames (s := s.lineState .stuck 0))
  all_goals exact hs.of_queue (by simp)

theorem execRemovalRequest_queueSound (hs : s.queueSound) (body : FrameBody) :
    ∃ t, execRemovalRequest body s = .next t ∧ t.queueSound := by
  have hasked : ((s.taken (.removalRequest body)).requestRemoval body).2.queueSound :=
    hs.of_sublist (State.requestRemoval_frames (s := s.taken _) body)
  refine ⟨_, rfl, queueSound_ite (fun _ => ?_) fun _ => hs⟩
  split <;> next answer => rw [answer] at hasked; exact hasked.of_queue rfl

/-- R30: each command joins frames by an offer only, and otherwise leaves the queue or takes frames out. -/
theorem exec_queueSound (c : Instr) (hs : s.queueSound) : ∃ t, exec c s = .next t ∧ t.queueSound := by
  have htaken (i : Instr) : (s.taken i).queueSound := hs
  cases c with
  -- the loader
  | reset => exact ⟨_, rfl, State.queueSound_of_empty rfl⟩
  | recordReadComplete bytes => exact ⟨_, rfl, queueSound_ite (fun _ => hs.endRead bytes) fun _ => hs⟩
  | memoryNoAcknowledge | retryWaitExpiry | announceTimerExpiry | modeNotice _ _ | helloOutcome _ =>
    exact ⟨_, rfl, hs.of_queue (by simp)⟩
  | resetRelease _ _ => exact ⟨_, rfl, queueSound_ite (fun _ => hs) fun _ => hs⟩
  | haltNotice block held =>
    exact ⟨_, rfl, queueSound_ite (fun _ => (htaken _).takeHaltNotice block held) fun _ => hs⟩
  -- inputs and the tracker
  | filterInputAsserted _ | filterInputReleased _ | cpQualification _ | stall | filteredGateEdge
  | holdLevelChange _ => exact ⟨_, rfl, hs.of_queue (by simp)⟩
  -- the line and its queue
  | idleGapComplete | dominantLevelInWaitGap | spoil | stuckExit =>
    exact ⟨_, rfl, hs.of_queue (by split <;> simp)⟩
  | contentionWindow => exact execContentionWindow_queueSound hs
  | contentionLost =>
    exact ⟨_, rfl, queueSound_ite (fun _ => hs.of_sublist
      (State.loseContention_frames (s := s.beginReceiving false))) fun _ => hs⟩
  | contentionDriveFailed => exact execContentionDriveFailed_queueSound hs
  | contentionWon => exact execContentionWon_queueSound hs
  | frameSent => exact execFrameSent_queueSound hs
  | frameHeard chars => exact execFrameHeard_queueSound hs chars
  | frameDiscarded cause => exact execFrameDiscarded_queueSound hs cause
  | stuckEntry => exact execStuckEntry_queueSound hs
  | carrierNotice here =>
    exact ⟨_, rfl, queueSound_ite (fun _ => hs.of_sublist
      (State.takeCarrierNotice_frames (s := s.taken _) here)) fun _ => hs⟩
  | removalRequest body => exact execRemovalRequest_queueSound hs body
  -- the gauge
  | gaugeCarrierArrival a =>
    have hcut := (htaken (.gaugeCarrierArrival a)).cutWindow
    exact ⟨_, rfl, queueSound_ite (fun _ => hcut.of_queue (by simp [State.openMeasure, State.workWatch_bus]))
      fun _ => queueSound_ite (fun _ => hs) fun _ => hs⟩
  | scanDue _ =>
    refine ⟨_, rfl, queueSound_ite (fun _ => ?_) fun _ => hs⟩
    split
    · exact hs
    · exact queueSound_ite (fun _ => hs.takeScan _ _) fun _ => hs
  | srdyAsserted => exact ⟨_, rfl, hs.of_queue (by (repeat' split) <;> rfl)⟩
  | scanRecordComplete _ | responseLimitExpiry =>
    refine ⟨_, rfl, queueSound_ite (fun _ => ?_) fun _ => hs⟩
    split
    · exact hs
    · exact hs.endScan _ _
  | lotPress =>
    have hheld : (s.setLotFilter .held).queueSound := hs
    exact ⟨_, rfl, queueSound_ite (fun _ => queueSound_ite (fun _ => hheld.pressLot) fun _ => hheld) fun _ => hs⟩
  | gaugeStemHeard _ _ | gaugeClaimHeard _ | gaugeYieldHeard _ | stemOutcome _ _ =>
    exact ⟨_, rfl, hs.of_queue (by simp)⟩
  | lotOutcome _ _ _ => exact ⟨_, rfl, queueSound_ite (fun _ => (htaken _).offered _) fun _ => hs⟩
  -- the flight table and the claim engine
  | flightTableStem _ _ _ | flightTableYield _ _ _ | flightTableLot _ _ | claimOutcome _ _
  | holdRelease | yieldOutcome _ _ _ => exact ⟨_, rfl, hs.of_queue (by simp)⟩
  | claimEngineCarrierArrival _ => exact ⟨_, rfl, hs.of_queue (by (repeat' split) <;> rfl)⟩
  | flightTableClaim _ _ _ => exact ⟨_, rfl, queueSound_ite (fun _ => (htaken _).judgeClaim _ _) fun _ => hs⟩
  | flightTableCarrierArrival a =>
    exact ⟨_, rfl, queueSound_ite (fun _ => queueSound_ite (fun _ => (htaken _).slipArrival a)
      fun _ => (htaken _).ordinaryArrival a) fun _ => hs⟩
  | clearNoticeFlightTable c => exact ⟨_, rfl, queueSound_ite (fun _ => (htaken _).giveBackCradle c) fun _ => hs⟩
  | passRequest => exact ⟨_, rfl, queueSound_ite (fun _ => (htaken _).runPass) fun _ => hs⟩
  | holdAssertion =>
    have hnotified : ((s.takeHold true).handAll (holdNotices true)).queueSound := hs
    exact ⟨_, rfl, queueSound_ite (fun _ => queueSound_ite (fun _ => hnotified.giveBackAll .hold) fun _ => hs)
      fun _ => hs⟩
  | yieldRequest _ _ => exact ⟨_, rfl, queueSound_ite (fun _ => (htaken _).offered _) fun _ => hs⟩
  -- the cradles, the release unit, the tie port and the status port
  | win _ | returnCount _ | miss _ | place _ | cradleCarrierArrival _ | closeLot _ | holdNoticeCradle _ | clear _
  | clearNoticeRelease _ | tieResult _ _ | uncertainMark _ | pulseEndExpiry
  | holdNoticeTiePort _ | queueNotice | recordShifted | ackLimitExpiry | tieLimitExpiry | statusWordComplete _
  | snapshot | sselRelease | lampFlashToggle => exact ⟨_, rfl, hs.of_queue (by simp)⟩
  | ackPress => exact ⟨_, rfl, queueSound_ite (fun _ => hs) fun _ => hs⟩
  | releaseHandover _ _ _ | releaseCarrierStep _ | flapSettleExpiry | delayExpiry | confirmationWindowExpiry | tackEdge
  | tdoneEdge => exact ⟨_, rfl, hs.of_queue (by (repeat' split) <;> simp)⟩
  | holdNoticeReleaseUnit _ => exact ⟨_, rfl, hs.of_queue (by dsimp only; (repeat' split) <;> simp)⟩

theorem State.queueSound.tick (hs : s.queueSound) : s.tick.queueSound := by
  refine hs.of_queue ?_
  rw [State.tick_eq, tickLineBus_eq]

/-- Settles O26: no operation on the queue but an offer joins a frame, and every answer to an offer keeps R30. -/
theorem transmitQueueStaysInOrder : Obligations.TransmitQueueStaysInOrder := by
  refine keptByEveryStep_of_exec_of_tick (fun s p hs => hs) (fun c s t hs hexec => ?_) fun s => State.queueSound.tick
  obtain ⟨u, hu, hsound⟩ := exec_queueSound c hs
  cases hexec.symm.trans hu
  exact hsound

end Sys2Proof.Machine
end


section
namespace Sys2Proof.Machine

variable {s t u : State} {before after : List QueuedFrame} {q : QueuedFrame}

/-! ### The frame being contended -/

theorem State.contendedFrame_eq (hq : s.bus.queue = before ++ q :: after) (hc : q.contended = true)
    (hb : ∀ x ∈ before, x.contended = false) : s.contendedFrame = some q := by
  have hnone : before.find? (fun x => x.contended) = none := by simpa using hb
  rw [State.contendedFrame, hq, List.find?_append, hnone]
  simp [hc]

theorem eraseP_contended (hc : q.contended = true) (hb : ∀ x ∈ before, x.contended = false) :
    (before ++ q :: after).eraseP (fun x => x.contended) = before ++ after := by
  rw [List.eraseP_append_right _ (by simpa using hb), List.eraseP_cons_of_pos hc]

theorem map_uncontended {l : List QueuedFrame} (h : ∀ x ∈ l, x.contended = false) :
    l.map (fun x => { x with contended := false }) = l :=
  (List.map_congr_left fun x hx => by rw [← h x hx]).trans (List.map_id' l)

/-! ### The answer to the request held back -/

/-- The end of the wait answers the request for the frame it names (R30, R33). -/
theorem State.heldRequestAnswered_of_bus {answer : RemovalAnswer} (h : t.bus = (u.answerHeld answer).bus)
    (hheld : u.bus.removalHeld = s.bus.removalHeld) (hanswer : u.bus.removalAnswer = s.bus.removalAnswer) :
    s.heldRequestAnswered answer t := by
  rw [State.heldRequestAnswered, h, answerHeld_bus, hheld, hanswer]
  exact ⟨rfl, rfl⟩

/-! ### A withdrawal that waits -/

theorem FlightEntry.waiting_eq_some {e : FlightEntry} {w : WaitingClaim} : e.waiting = some w
    ↔ e.slot = w.slot ∧ e.state = .tentative w.cradle w.pendingYield (some w.withdrawal) := by
  obtain ⟨slot, cls, lot, st⟩ := e
  obtain ⟨wslot, cradle, pendingYield, withdrawal⟩ := w
  cases st with
  | tentative c y a => cases a <;> simp [FlightEntry.waiting]
  | unclaimed | mine c | other n | yielded | released => simp [FlightEntry.waiting]

theorem FlightEntry.waiting_eq_none {e : FlightEntry} (h : e.waiting = none) (c : CradleId) (y : Option YieldReason)
    (w : Withdrawal) : e.state ≠ .tentative c y (some w) := by
  intro hst
  simp [FlightEntry.waiting, hst] at h

/-- What waits for a CLAIM's slot stands in that slot's entry. -/
theorem State.waitingFor_of_claimSlot {body : FrameBody} {slot : Slot} (h : claimSlot body = some slot)
    (htable : t.table = s.table) : s.waitingFor body = (t.entry? slot).bind FlightEntry.waiting := by
  rw [State.waitingFor, h, State.entry?, htable]
  rfl

theorem State.waitingFor_of_not_claim {body : FrameBody} (h : claimSlot body = none) : s.waitingFor body = none := by
  rw [State.waitingFor, h]
  rfl

/-- A withdrawal that waits for a slot, by the entry that holds it. -/
theorem State.entry_of_waiting {slot : Slot} {w : WaitingClaim}
    (h : (s.entry? slot).bind FlightEntry.waiting = some w) :
    ∃ e, s.entry? slot = some e ∧ w.slot = slot ∧ e.state = .tentative w.cradle w.pendingYield (some w.withdrawal) := by
  obtain ⟨e, he, hw⟩ := Option.bind_eq_some_iff.mp h
  obtain ⟨hslot, hst⟩ := FlightEntry.waiting_eq_some.mp hw
  have hfound := List.find?_some he
  exact ⟨e, he, hslot.symm.trans (by simpa using hfound), hst⟩

theorem State.answerRemoved_of_waiting {slot : Slot} {w : WaitingClaim}
    (h : (s.entry? slot).bind FlightEntry.waiting = some w) :
    s.answerRemoved slot = s.withdrawNow w.slot w.cradle w.withdrawal.target := by
  obtain ⟨e, he, rfl, hst⟩ := entry_of_waiting h
  simp [State.answerRemoved, he, hst]

theorem State.answerRemoved_of_none {slot : Slot} (h : (s.entry? slot).bind FlightEntry.waiting = none) :
    s.answerRemoved slot = s := by
  rcases s.answerRemoved_cases slot with hsame | ⟨e, c, y, w, he, hst, -⟩
  · exact hsame
  · rw [he] at h
    exact absurd hst (FlightEntry.waiting_eq_none h c y w)

theorem State.answerInTransmission_of_waiting {slot : Slot} {w : WaitingClaim}
    (h : (s.entry? slot).bind FlightEntry.waiting = some w) : s.answerInTransmission slot
      = s.setEntry w.slot (.tentative w.cradle (laterReason w.withdrawal.reason w.pendingYield) none) := by
  obtain ⟨e, he, rfl, hst⟩ := entry_of_waiting h
  simp [State.answerInTransmission, he, hst]

theorem State.answerInTransmission_of_none {slot : Slot} (h : (s.entry? slot).bind FlightEntry.waiting = none) :
    s.answerInTransmission slot = s := by
  unfold State.answerInTransmission
  split
  · rfl
  · next e he =>
    rw [he] at h
    split
    case h_1 c y w hst => exact absurd hst (FlightEntry.waiting_eq_none h c y w)
    all_goals rfl

theorem laterReason_eq_or (reason former : Option YieldReason) : laterReason reason former = reason.or former := by
  cases reason <;> rfl

theorem State.answerLeft_claim {body : FrameBody} {slot : Slot} (answer : RemovalAnswer)
    (h : claimSlot body = some slot) : s.answerLeft answer body = (s.answerHeld answer).answerRemoved slot := by
  simp [State.answerLeft, h]

theorem State.answerLeft_other {body : FrameBody} (answer : RemovalAnswer) (h : claimSlot body = none) :
    s.answerLeft answer body = s.answerHeld answer := by
  simp [State.answerLeft, h]

theorem State.answerSending_claim {body : FrameBody} {slot : Slot} (h : claimSlot body = some slot) :
    s.answerSending body = (s.answerHeld .inTransmission).answerInTransmission slot := by
  simp [State.answerSending, h]

theorem State.answerSending_other {body : FrameBody} (h : claimSlot body = none) :
    s.answerSending body = s.answerHeld .inTransmission := by
  simp [State.answerSending, h]

/-- R74: a withdrawal carried out gives its entry the target's state, or removes it. -/
theorem State.withdrawNow_table (slot : Slot) (c : CradleId) (target : WithdrawalTarget) :
    (s.withdrawNow slot c target).table = { s.table with entries := s.table.entries.filterMap (fun e =>
      if e.slot = slot then target.entryState.map (fun st => { e with state := st }) else some e) } := by
  cases target with
  | unclaimed | other n | released =>
    simp only [State.withdrawNow, bump_table, hand_table, setEntry_table, WithdrawalTarget.entryState, Option.map_some]
    rw [← List.filterMap_eq_map']
    congr 2
    funext e
    split <;> rfl
  | removal =>
    simp only [State.withdrawNow, bump_table, hand_table, removeEntry_table, WithdrawalTarget.entryState,
      Option.map_none]
    rw [← List.filterMap_eq_filter]
    congr 2
    funext e
    by_cases h : e.slot = slot <;> simp [Option.guard, h]

theorem State.withdrawNow_handed (slot : Slot) (c : CradleId) (target : WithdrawalTarget) :
    (s.withdrawNow slot c target).handed = s.handed ++ [.returnCount c] := by
  cases target <;> rfl

theorem State.withdrawNow_status (slot : Slot) (c : CradleId) (target : WithdrawalTarget) :
    (s.withdrawNow slot c target).status = (s.bump .claimsWithdrawn).status := by
  cases target <;> rfl

/-- R30, R74: with the frame out of the queue, what waited on it is carried out with its own target. -/
theorem State.answerLeft_carriedOut (answer : RemovalAnswer) (body : FrameBody) (htable : t.table = s.table)
    (hcount : t.counter .claimsWithdrawn = s.counter .claimsWithdrawn) :
    s.waitingCarriedOut body t.handed (t.answerLeft answer body) := by
  have hheld : (t.answerHeld answer).table = s.table := by simp [htable]
  have hcounted : (t.answerHeld answer).counter .claimsWithdrawn = s.counter .claimsWithdrawn := by
    simpa [State.counter] using hcount
  cases hclaim : claimSlot body with
  | none =>
    rw [answerLeft_other answer hclaim]
    exact ⟨fun _ => ⟨hheld, by simp, hcounted⟩, by simp [waitingFor_of_not_claim hclaim]⟩
  | some slot =>
    rw [answerLeft_claim answer hclaim]
    refine ⟨fun h => ?_, fun w h => ?_⟩ <;> rw [waitingFor_of_claimSlot hclaim hheld] at h
    · rw [answerRemoved_of_none h]
      exact ⟨hheld, by simp, hcounted⟩
    · rw [answerRemoved_of_waiting h, withdrawNow_table, withdrawNow_handed, State.counter, withdrawNow_status, hheld]
      exact ⟨rfl, by simp, (State.bump_counter_self _ _).trans (by rw [hcounted])⟩

theorem State.answerLeft_flags (answer : RemovalAnswer) (body : FrameBody) :
    (s.answerLeft answer body).status.flags = s.status.flags := by
  cases hclaim : claimSlot body with
  | some slot =>
    rw [answerLeft_claim answer hclaim]
    rcases (s.answerHeld answer).answerRemoved_cases slot with h | ⟨e, c, y, w, -, -, h⟩ <;> rw [h]
    · simp
    · simp [withdrawNow_status]
  | none => simp [answerLeft_other answer hclaim]

theorem State.answerLeft_counter_other (answer : RemovalAnswer) (body : FrameBody) {n : CounterName}
    (hn : n ≠ .claimsWithdrawn) : (s.answerLeft answer body).counter n = s.counter n := by
  cases hclaim : claimSlot body with
  | some slot =>
    rw [answerLeft_claim answer hclaim]
    rcases (s.answerHeld answer).answerRemoved_cases slot with h | ⟨e, c, y, w, -, -, h⟩ <;> rw [h]
    · simp [State.counter]
    · rw [State.counter, withdrawNow_status]
      simpa [State.counter] using (s.answerHeld answer).bump_counter_other hn
  | none => simp [answerLeft_other answer hclaim, State.counter]

/-- R30, R74: a frame that wins, or whose drive fails, leaves what waited on it as the pending yield. -/
theorem State.answerSending_transmitted (body : FrameBody) (htable : t.table = s.table) :
    s.waitingTransmitted body (t.answerSending body) := by
  have hheld : (t.answerHeld .inTransmission).table = s.table := by simp [htable]
  cases hclaim : claimSlot body with
  | none =>
    rw [answerSending_other hclaim]
    exact ⟨fun _ => hheld, by simp [waitingFor_of_not_claim hclaim]⟩
  | some slot =>
    rw [answerSending_claim hclaim]
    refine ⟨fun h => ?_, fun w h => ?_⟩ <;> rw [waitingFor_of_claimSlot hclaim hheld] at h
    · rw [answerInTransmission_of_none h, hheld]
    · rw [answerInTransmission_of_waiting h, setEntry_table, hheld, laterReason_eq_or]

/-! ### The end of a contention -/

/-- A state that the end of a contention has changed in bus, table, arrivals and counters only. -/
theorem State.eq_of_line_frame (h : t.pins = s.pins ∧ t.loader = s.loader ∧ t.tracker = s.tracker ∧ t.gauge = s.gauge
    ∧ t.engine = s.engine ∧ t.cradles = s.cradles ∧ t.release = s.release ∧ t.tie = s.tie ∧ t.now = s.now
    ∧ t.pending = s.pending) :
    t = { s with bus := t.bus, table := t.table, status := t.status, handed := t.handed } := by
  obtain ⟨hpins, hloader, htracker, hgauge, hengine, hcradles, hrelease, htie, hnow, hpending⟩ := h
  rw [← hpins, ← hloader, ← htracker, ← hgauge, ← hengine, ← hcradles, ← hrelease, ← htie, ← hnow, ← hpending]

/-- What a lost contention of the frame `q` leaves of the state (R22, R30, R74). -/
structure State.LosesContention (s : State) (before : List QueuedFrame) (q : QueuedFrame) (after : List QueuedFrame)
    (t : State) : Prop where
  bus : t.bus = { s.bus with
    queue := t.bus.queue, removalHeld := t.bus.removalHeld, removalAnswer := t.bus.removalAnswer }
  lost : s.contentionLostFor before q after t
  counter : ∀ n, n ≠ .framesDropped → n ≠ .claimsWithdrawn → t.counter n = s.counter n
  flags : t.status.flags = s.status.flags
  frame : t = { s with bus := t.bus, table := t.table, status := t.status, handed := t.handed }

/-- R22: with no event held the frame keeps its place, contended no longer. -/
theorem State.loseContention_of_no_event (hq : s.bus.queue = before ++ q :: after) (hc : q.contended = true)
    (hb : ∀ x ∈ before, x.contended = false) (ha : ∀ x ∈ after, x.contended = false) (he : q.heldEvent = none) :
    s.loseContention = { s with bus := { s.bus with queue := before ++ { q with contended := false } :: after } } := by
  simp [State.loseContention, contendedFrame_eq hq hc hb, he, hq, map_uncontended hb, map_uncontended ha]

theorem State.loseContention_of_expired (hq : s.bus.queue = before ++ q :: after) (hc : q.contended = true)
    (hb : ∀ x ∈ before, x.contended = false) (he : q.heldEvent = some .expired) :
    s.loseContention = (s.leaveContended.expire q.frame.body).answerLeft .notQueued q.frame.body := by
  simp [State.loseContention, contendedFrame_eq hq hc hb, he]

theorem State.loseContention_of_removed (hq : s.bus.queue = before ++ q :: after) (hc : q.contended = true)
    (hb : ∀ x ∈ before, x.contended = false) (he : q.heldEvent = some .removed) :
    s.loseContention
      = (s.leaveContended.hand (outcomeArrival q.frame.body .removed)).answerLeft .removed q.frame.body := by
  simp [State.loseContention, contendedFrame_eq hq hc hb, he]

/-- What a frame that a held event takes out of the queue leaves, its outcome handed over (R30, R74). -/
structure State.LeavesContention (s : State) (body : FrameBody) (rest : List QueuedFrame) (answer : RemovalAnswer)
    (handed : List Instr) (t : State) : Prop where
  bus : t.bus = { s.bus with
    queue := rest, removalHeld := t.bus.removalHeld, removalAnswer := t.bus.removalAnswer }
  answered : s.heldRequestAnswered answer t
  carriedOut : s.waitingCarriedOut body handed t

theorem State.answerLeft_leaves {body : FrameBody} {rest : List QueuedFrame} (answer : RemovalAnswer)
    (hbus : u.bus = { s.bus with queue := rest }) (htable : u.table = s.table)
    (hcount : u.counter .claimsWithdrawn = s.counter .claimsWithdrawn) :
    s.LeavesContention body rest answer u.handed (u.answerLeft answer body) where
  bus := by rw [answerLeft_bus, answerHeld_bus, hbus]
  answered := heldRequestAnswered_of_bus (answerLeft_bus _ _) (by rw [hbus]) (by rw [hbus])
  carriedOut := answerLeft_carriedOut answer body htable hcount

/-- A lost contention, by the event that was held for its frame. -/
theorem State.loseContention_loses (hq : s.bus.queue = before ++ q :: after) (hc : q.contended = true)
    (hb : ∀ x ∈ before, x.contended = false) (ha : ∀ x ∈ after, x.contended = false) :
    s.LosesContention before q after s.loseContention := by
  have hframe := State.eq_of_line_frame s.loseContention_frame
  have hleft : s.leaveContended.bus = { s.bus with queue := before ++ after } := by
    rw [leaveContended_bus, hq, eraseP_contended hc hb]
  cases he : q.heldEvent with
  | none =>
    rw [loseContention_of_no_event hq hc hb ha he] at hframe ⊢
    exact ⟨rfl, by simp [State.contentionLostFor, he, State.counter], fun _ _ _ => rfl, rfl, hframe⟩
  | some event =>
    cases event with
    | expired =>
      rw [loseContention_of_expired hq hc hb he] at hframe ⊢
      obtain ⟨hbus, hanswered, hcarried⟩ := State.answerLeft_leaves (u := s.leaveContended.expire q.frame.body)
        (body := q.frame.body) .notQueued hleft rfl rfl
      refine ⟨by rw [hbus], ⟨(congrArg LineBus.queue hbus).trans (by simp [he]), ?_,
        by simp [he], fun _ => ⟨hanswered, hcarried⟩, by simp [he]⟩,
        fun n hdropped hn => ?_, answerLeft_flags _ _, hframe⟩
      · rw [answerLeft_counter_other _ _ (by decide), if_pos he]
        exact s.bump_counter_self .framesDropped
      · rw [answerLeft_counter_other _ _ hn]
        exact s.bump_counter_other hdropped
    | removed =>
      rw [loseContention_of_removed hq hc hb he] at hframe ⊢
      obtain ⟨hbus, hanswered, hcarried⟩ := State.answerLeft_leaves
        (u := s.leaveContended.hand (outcomeArrival q.frame.body .removed)) (body := q.frame.body)
        .removed hleft rfl rfl
      refine ⟨by rw [hbus], ⟨(congrArg LineBus.queue hbus).trans (by simp [he]), ?_,
        by simp [he], by simp [he], fun _ => ⟨hanswered, hcarried⟩⟩,
        fun n _ hn => answerLeft_counter_other _ _ hn, answerLeft_flags _ _, hframe⟩
      rw [answerLeft_counter_other _ _ (by decide), if_neg (by simp [he])]
      rfl

/-- R30, R74: a frame that leaves the queue for the line answers the request held for it. -/
theorem State.answerSending_eq (body : FrameBody) : s.answerSending body
    = { s with bus := (s.answerSending body).bus, table := (s.answerSending body).table } := by
  obtain ⟨hpins, hloader, htracker, hgauge, hengine, hcradles, hrelease, htie, hstatus, hhanded, hnow, hpending⟩ :=
    s.answerSending_frame body
  generalize s.answerSending body = t at *
  rw [← hpins, ← hloader, ← htracker, ← hgauge, ← hengine, ← hcradles, ← hrelease, ← htie, ← hstatus, ← hhanded, ← hnow,
    ← hpending]

theorem exec_contentionLost (h : s.bus.state = .contending) :
    exec .contentionLost s = .next ((s.beginReceiving false).loseContention) := by
  simp [exec, execContentionLost, h]

theorem exec_contentionWon (h : s.bus.state = .contending) (hq : s.bus.queue = before ++ q :: after)
    (hc : q.contended = true) (hb : ∀ x ∈ before, x.contended = false) :
    exec .contentionWon s = .next (({ s with bus := { s.bus with
      state := .sending, gap := 0, queue := before ++ after, sending := some q.frame } } : State).answerSending
        q.frame.body) := by
  simp [exec, execContentionWon, h, State.contendedFrame_eq hq hc hb, State.leaveContended, hq, eraseP_contended hc hb,
    State.lineState]

/-- Settles O18: what becomes of the frame, and of what waited on it, at a contention lost and at one won. -/
theorem contentionIsLostOrWon : Obligations.ContentionIsLostOrWon := by
  intro s before after q hstate hq hc hb ha
  have hlost := State.loseContention_loses (s := s.beginReceiving false) hq hc hb ha
  refine ⟨fun he => ?_, ⟨_, exec_contentionLost hstate, hlost.bus, hlost.lost, hlost.counter, hlost.flags, hlost.frame⟩,
    ⟨_, exec_contentionWon hstate hq hc hb, ?_, State.answerSending_transmitted _ rfl,
      State.heldRequestAnswered_of_bus (State.answerSending_bus _) rfl rfl,
      State.answerSending_eq _⟩⟩
  · rw [exec_contentionLost hstate, State.loseContention_of_no_event (s := s.beginReceiving false) hq hc hb ha he]
    rfl
  · rw [State.answerSending_bus, State.answerHeld_bus]

/-! ### A spoiled transmission -/

theorem State.spoilFrame_eq (body : FrameBody) : s.spoilFrame body = { s with
    bus := { s.bus with spoilRun := min (s.bus.spoilRun + 1) 16 }
    status := (s.spoilFrame body).status
    handed := s.handed ++ [outcomeArrival body .spoiled] } := by
  unfold State.spoilFrame
  dsimp only
  split <;> rfl

theorem State.spoilFrame_counter (body : FrameBody) (n : CounterName) :
    (s.spoilFrame body).counter n = (s.bump .spoiledTransmissions).counter n := by
  unfold State.spoilFrame
  dsimp only
  split <;> rfl

theorem State.spoilFrame_flag_other (body : FrameBody) {g : FlagName} (hg : g ≠ .txFault) :
    (s.spoilFrame body).flag g = s.flag g := by
  unfold State.spoilFrame
  dsimp only
  split
  · exact State.raise_flag_other _ hg
  · rfl

/-- R28: TX_FAULT is set when the run reaches 16. -/
theorem State.spoilFrame_txFault (body : FrameBody) :
    (s.spoilFrame body).flag .txFault = (s.flag .txFault || decide (15 ≤ s.bus.spoilRun)) := by
  have hfull : min (s.bus.spoilRun + 1) spoilLimit = spoilLimit ↔ 15 ≤ s.bus.spoilRun := by
    simp [spoilLimit]
  unfold State.spoilFrame
  simp only [hfull]
  split_ifs with h
  · rw [decide_eq_true h, Bool.or_true]
    exact State.raise_flag_self _ _
  · rw [decide_eq_false h, Bool.or_false]
    rfl

theorem State.spoilFrame_status (body : FrameBody) : (s.spoilFrame body).status = { s.status with
    flags := (s.spoilFrame body).status.flags, counters := (s.spoilFrame body).status.counters } := by
  unfold State.spoilFrame
  dsimp only
  split <;> rfl

/-- R26, R28: what the station counts and tells when a frame spoils. -/
structure State.Spoils (s : State) (body : FrameBody) (t : State) : Prop where
  handed : t.handed = s.handed ++ [outcomeArrival body .spoiled]
  counted : t.counter .spoiledTransmissions = countUp (s.counter .spoiledTransmissions)
  counter : ∀ n, n ≠ .spoiledTransmissions → t.counter n = s.counter n
  txFault : t.flag .txFault = (s.flag .txFault || decide (15 ≤ s.bus.spoilRun))
  flag : ∀ g, g ≠ .txFault → t.flag g = s.flag g
  status : t.status = { s.status with flags := t.status.flags, counters := t.status.counters }

theorem State.spoilFrame_spoils (body : FrameBody) : s.Spoils body (s.spoilFrame body) where
  handed := by rw [spoilFrame_eq]
  counted := by rw [spoilFrame_counter, bump_counter_self]
  counter n hn := by rw [spoilFrame_counter, bump_counter_other _ hn]
  txFault := spoilFrame_txFault body
  flag _ hg := spoilFrame_flag_other body hg
  status := spoilFrame_status body

/-- The counts of a spoil are not those of the line's next state. -/
theorem State.Spoils.of_same {body : FrameBody} (h : s.Spoils body t) (hhanded : u.handed = t.handed)
    (hstatus : u.status = t.status) : s.Spoils body u := by
  obtain ⟨handed, counted, counter, txFault, flag, status⟩ := h
  simp only [State.counter, State.flag, ← hhanded, ← hstatus] at handed counted counter txFault flag status
  exact ⟨handed, counted, counter, txFault, flag, status⟩

/-- The counts of a spoil are those of the transmission that ended before it. -/
theorem State.Spoils.congr {body : FrameBody} (h : u.Spoils body t) (hhanded : u.handed = s.handed)
    (hstatus : u.status = s.status) (hrun : u.bus.spoilRun = s.bus.spoilRun) : s.Spoils body t := by
  obtain ⟨handed, counted, counter, txFault, flag, status⟩ := h
  simp only [State.counter, State.flag, hhanded, hstatus, hrun] at handed counted counter txFault flag status
  exact ⟨handed, counted, counter, txFault, flag, status⟩

/-- The state in which a frame just spoiled is counted: none is being sent any more (R26). -/
def State.sendingEnded (s : State) : State := { s with bus := { s.bus with sending := none } }

theorem State.sendingEnded_spoils (body : FrameBody) : s.Spoils body (s.sendingEnded.spoilFrame body) :=
  (spoilFrame_spoils body).congr rfl rfl rfl

theorem State.spoilSending_eq {f : Frame} (h : s.bus.sending = some f) :
    s.spoilSending = s.sendingEnded.spoilFrame f.body := by
  simp [State.spoilSending, h, State.sendingEnded]

theorem exec_spoil {f : Frame} (hstate : s.bus.state = .sending) (h : s.bus.sending = some f) :
    exec .spoil s = .next ((s.sendingEnded.spoilFrame f.body).beginReceiving true) := by
  simp [exec, execSpoil, hstate, State.spoilSending_eq h]

/-- The state in which a failed drive is counted: the frame has left the queue, and the station receives (R22). -/
def State.driveFailed (rest : List QueuedFrame) (s : State) : State :=
  { s with bus := { s.bus with state := .receiving, gap := 0, ownSpoiled := false, queue := rest } }

theorem State.driveFailed_spoils (s : State) (body : FrameBody) (rest : List QueuedFrame) :
    s.Spoils body (((s.driveFailed rest).answerSending body).spoilFrame body) :=
  (spoilFrame_spoils body).congr (by simp [driveFailed]) (by simp [driveFailed])
    (by simp [driveFailed, answerSending_bus, answerHeld_bus])

theorem exec_contentionDriveFailed (h : s.bus.state = .contending) (hq : s.bus.queue = before ++ q :: after)
    (hc : q.contended = true) (hb : ∀ x ∈ before, x.contended = false) : exec .contentionDriveFailed s
      = .next (((s.driveFailed (before ++ after)).answerSending q.frame.body).spoilFrame q.frame.body) := by
  simp [exec, execContentionDriveFailed, h, State.contendedFrame_eq hq hc hb, State.leaveContended, hq,
    eraseP_contended hc hb, State.beginReceiving, State.driveFailed]

theorem State.spoilFrame_table (body : FrameBody) : (s.spoilFrame body).table = s.table := by
  rw [spoilFrame_eq]

/-- Settles O19: a frame spoils by its readback, or by a drive that fails in the contention. -/
theorem spoiledTransmissionsAreCounted : Obligations.SpoiledTransmissionsAreCounted := by
  refine ⟨fun s f hstate hf => ?_, fun s before after q hstate hq hc hb => ?_⟩
  · have hspoils : s.Spoils f.body ((s.sendingEnded.spoilFrame f.body).beginReceiving true) :=
      (State.sendingEnded_spoils f.body).of_same rfl rfl
    refine ⟨_, exec_spoil hstate hf, ?_, hspoils.handed, hspoils.counted, hspoils.counter,
      hspoils.txFault, hspoils.flag, ?_⟩
    · rw [State.beginReceiving_bus, State.spoilFrame_bus]
      rfl
    · rw [State.spoilFrame_eq]
      rfl
  · have hspoils := s.driveFailed_spoils q.frame.body (before ++ after)
    refine ⟨_, exec_contentionDriveFailed hstate hq hc hb, ?_, ?_, ?_, hspoils.handed, hspoils.counted, hspoils.counter,
      hspoils.txFault, hspoils.flag, hspoils.status, State.eq_of_line_frame (by simp [State.driveFailed])⟩
    · rw [State.spoilFrame_bus, State.answerSending_bus, State.answerHeld_bus]
      rfl
    · rw [State.waitingTransmitted, State.spoilFrame_table]
      exact State.answerSending_transmitted _ rfl
    · rw [State.heldRequestAnswered, State.spoilFrame_bus]
      exact State.heldRequestAnswered_of_bus (State.answerSending_bus _) rfl rfl

end Sys2Proof.Machine
end


section
namespace Sys2Proof.Machine

variable {s t u : State} {before after : List QueuedFrame} {q : QueuedFrame}

/-! ### The line state -/

theorem exec_idleGapComplete (h : s.bus.state = .waitGap) : exec .idleGapComplete s = .next (s.lineState .idle 0) := by
  simp [exec, execIdleGapComplete, h]

theorem exec_dominantLevelInWaitGap (h : s.bus.state = .waitGap ∨ s.bus.state = .stuck) :
    exec .dominantLevelInWaitGap s = .next (s.lineState s.bus.state 0) := by
  simp [exec, execDominantLevelInWaitGap, h]

theorem exec_stuckExit (h : s.bus.state = .stuck) : exec .stuckExit s = .next (s.lineState .idle 0) := by
  simp [exec, execStuckExit, h]

/-- R20: in IDLE a station that may offer joins the window with its queue head. -/
theorem exec_contentionWindow_joins (h : s.bus.state = .idle) (ho : s.mayOffer = true) :
    exec .contentionWindow s = .next { s with
      bus := { s.bus with state := .contending, queue := contendHead s.bus.queue } } := by
  simp [exec, execContentionWindow, h, ho]

/-- R20: a station that may not offer receives. -/
theorem exec_contentionWindow_receives (h : s.bus.state = .idle) (ho : s.mayOffer = false) :
    exec .contentionWindow s = .next (s.beginReceiving false) := by
  simp [exec, execContentionWindow, h, ho]

theorem State.mayOffer_eq_false_iff : s.mayOffer = false
    ↔ ¬ s.offersAccepted ∨ s.flag .txFault = true ∨ s.bus.queue = [] := by
  rw [← Bool.not_eq_true, State.mayOffer_iff, not_and_or, not_and_or, Bool.not_eq_false, not_not]

/-- R29: with no frame of its own on the line the station enters STUCK at once. -/
theorem exec_stuckEntry_undriven (h : s.bus.state = .waitGap ∨ s.bus.state = .idle ∨ s.bus.state = .receiving) :
    exec .stuckEntry s = .next ((s.lineState .stuck 0).raise .busStuck) := by
  rcases h with h | h | h <;> simp [exec, execStuckEntry, h]

theorem exec_stuckEntry_contending (h : s.bus.state = .contending) :
    exec .stuckEntry s = .next (((s.lineState .stuck 0).loseContention).raise .busStuck) := by
  simp [exec, execStuckEntry, h]

theorem exec_stuckEntry_sending {f : Frame} (h : s.bus.state = .sending) (hf : s.bus.sending = some f) :
    exec .stuckEntry s = .next (((s.sendingEnded.spoilFrame f.body).lineState .stuck 0).raise .busStuck) := by
  simp [exec, execStuckEntry, h, State.spoilSending_eq hf]

/-! ### Levels on the line -/

/-- The frame the station drives the line for. -/
def State.Drives (s : State) (f : Frame) : Prop :=
  (s.bus.state = .sending ∧ s.bus.sending = some f)
    ∨ (s.bus.state = .contending ∧ (s.bus.queue.find? (fun q => q.contended)).map (fun q => q.frame) = some f)

/-- R18: the levels of the frame one after the other, recessive after its end. -/
theorem State.lineLevel_of_drives {f : Frame} (hm : s.offersAccepted) (h : s.Drives f) (n : Nat) :
    s.lineLevel n = (frameLevels f).getD n false := by
  have hdrives : s.drivesLine = true := by
    simpa [State.drivesLine, hm] using h.symm.imp And.left And.left
  have hchars : s.lineCharacters = some (frameBytes f) := by
    rcases h with ⟨hs, hf⟩ | ⟨hs, hf⟩
    · simp [State.lineCharacters, hs, hf]
    · obtain ⟨q, hq, rfl⟩ := Option.map_eq_some_iff.mp hf
      simp [State.lineCharacters, hs, hq]
  simp [State.lineLevel, hchars, hdrives, frameLevels]

theorem State.lineLevel_undriven (hc : s.bus.state ≠ .contending) (hs : s.bus.state ≠ .sending) (n : Nat) :
    s.lineLevel n = false := by
  unfold State.lineLevel
  split
  · rfl
  · simp [State.drivesLine, hc, hs]

/-- R18: level `k` of character `i` of a frame. -/
theorem frameLevels_getD {f : Frame} {i k : Nat} {char : Byte} (hk : k < 10) (hi : (frameBytes f)[i]? = some char) :
    (frameLevels f).getD (10 * i + k) false = (characterLevels char).getD k false := by
  rw [List.getD_eq_getElem?_getD, List.getD_eq_getElem?_getD, frameLevels, levels_at k hk, hi]
  rfl

/-- R18: the data bits stand most significant first behind the start bit. -/
theorem characterLevels_data (char : Byte) {j : Nat} (hj : j < 8) :
    (characterLevels char).getD (1 + j) false = char.getLsbD (7 - j) := by
  interval_cases j <;> rfl

/-- The eight data bits of a character spell it. -/
theorem byteOfBits_bitsOf (char : Byte) : byteOfBits (bitsOf char) = char := by
  revert char
  decide +kernel

theorem readCharacter_characterLevels (char : Byte) : readCharacter (characterLevels char) = some char := by
  have hlast : (characterLevels char).getLast? = some false := rfl
  have hdata : ((characterLevels char).drop 1).take 8 = bitsOf char := rfl
  rw [readCharacter, if_pos ⟨rfl, rfl, hlast⟩, hdata, byteOfBits_bitsOf]

/-- What a driven character shows, level by level (R18). -/
theorem State.lineLevel_character {f : Frame} {i : Nat} {char : Byte} (hm : s.offersAccepted) (h : s.Drives f)
    (hi : (frameBytes f)[i]? = some char) : s.lineLevel (10 * i) = true
      ∧ (∀ j, j < 8 → s.lineLevel (10 * i + 1 + j) = char.getLsbD (7 - j)) ∧ s.lineLevel (10 * i + 9) = false := by
  refine ⟨?_, fun j hj => ?_, ?_⟩
  · rw [lineLevel_of_drives hm h]
    exact frameLevels_getD (k := 0) (by omega) hi
  · rw [lineLevel_of_drives hm h, Nat.add_assoc, frameLevels_getD (by omega) hi, characterLevels_data char hj]
  · rw [lineLevel_of_drives hm h, frameLevels_getD (by omega) hi]
    rfl

theorem State.lineLevel_after_frame {f : Frame} (hm : s.offersAccepted) (h : s.Drives f) {n : Nat}
    (hn : 10 * (frameBytes f).length ≤ n) : s.lineLevel n = false := by
  rw [lineLevel_of_drives hm h]
  exact List.getD_eq_default _ _ (by rwa [frameLevels, levels_length])

/-- Settles O17: each move of the line state by its equation, and the levels of a frame character by character. -/
theorem lineStateFollowsTheLine : Obligations.LineStateFollowsTheLine := by
  refine ⟨fun s => ⟨exec_idleGapComplete, exec_dominantLevelInWaitGap, exec_stuckExit, exec_stuckEntry_undriven,
      fun q rest h hm ht hq => ?_, fun h hnot => ?_, fun before after q h hq hc hb ha => ?_, fun f h hf => ?_⟩,
    fun s f i char hm h => ⟨State.lineLevel_character hm h, fun n => State.lineLevel_after_frame hm h⟩,
    fun s n hc hs => State.lineLevel_undriven hc hs n, readCharacter_characterLevels⟩
  · rw [exec_contentionWindow_joins h (State.mayOffer_iff.mpr ⟨hm, ht, by simp [hq]⟩), hq]
    rfl
  · rw [← not_or] at hnot
    exact exec_contentionWindow_receives h (State.mayOffer_eq_false_iff.mpr hnot)
  · have hloses := State.loseContention_loses (s := s.lineState .stuck 0) hq hc hb ha
    exact ⟨_, exec_stuckEntry_contending h, hloses.bus, hloses.lost, hloses.counter, State.raise_flag_self _ _,
      fun g hg => (State.raise_flag_other _ hg).trans (by simp [State.flag, hloses.flags]),
      State.eq_of_line_frame (by simp)⟩
  · have hspoils : s.Spoils f.body ((s.sendingEnded.spoilFrame f.body).lineState .stuck 0) :=
      (State.sendingEnded_spoils f.body).of_same rfl rfl
    refine ⟨_, exec_stuckEntry_sending h hf, ?_, (State.raise_handed _ _).trans hspoils.handed,
      (State.raise_counter _ _ _).trans hspoils.counted,
      fun n hn => (State.raise_counter _ _ n).trans (hspoils.counter n hn),
      State.raise_flag_self _ _, (State.raise_flag_other _ (by decide)).trans hspoils.txFault,
      fun g hb ht => (State.raise_flag_other _ hb).trans (hspoils.flag g ht), ?_⟩
    · rw [State.raise_bus, State.lineState_bus, State.spoilFrame_bus]
      rfl
    · rw [State.spoilFrame_eq]
      rfl

/-! ### Heard frames -/

/-- R37: outside ANNOUNCING and ACTIVE a heard frame is only counted (log 24). -/
theorem State.hearFrame_not_accepting (h : ¬ s.offersAccepted) (own : Bool) (f : Frame) :
    s.hearFrame own f = s.bump .framesHeard := by
  simp [State.hearFrame, h]

/-- R34: another station sends with this one's id. -/
theorem State.hearFrame_duplicate {f : Frame} (h : s.offersAccepted) (hid : f.sender = s.stationId) :
    s.hearFrame false f = ((s.bump .framesHeard).raise .duplicateId).haltReport := by
  simp [State.hearFrame, h, hid]

/-- R36: a gauge hears another gauge. -/
theorem State.hearFrame_conflict {f : Frame} (h : s.offersAccepted) (hid : f.sender ≠ s.stationId)
    (hrole : s.loader.role = some .gauge) (hf : isGaugeFrame f.body = true) (own : Bool) :
    s.hearFrame own f = ((s.bump .framesHeard).raise .gaugeConflict).haltReport := by
  simp [State.hearFrame, h, hid, hrole, hf]

/-- The identity checks of R25 step 1 let a frame through. -/
def State.IdentityPasses (s : State) (own : Bool) (f : Frame) : Prop :=
  ¬ (own = false ∧ f.sender = s.stationId)
    ∧ ¬ (s.loader.role = some .gauge ∧ isGaugeFrame f.body = true ∧ f.sender ≠ s.stationId)

theorem State.hearFrame_bad {own : Bool} {f : Frame} (h : s.offersAccepted) (hid : s.IdentityPasses own f)
    (hbad : contentBad s.cfg.chainLength f.body = true) :
    s.hearFrame own f = (s.bump .framesHeard).bump .receiveErrors := by
  rw [State.hearFrame, if_neg (not_not_intro h), if_neg hid.1, if_neg hid.2, if_pos hbad]

theorem State.hearFrame_good {own : Bool} {f : Frame} (h : s.offersAccepted) (hid : s.IdentityPasses own f)
    (hgood : contentBad s.cfg.chainLength f.body = false) :
    s.hearFrame own f = (s.bump .framesHeard).acceptFrame f := by
  rw [State.hearFrame, if_neg (not_not_intro h), if_neg hid.1, if_neg hid.2, if_neg (by simp [hgood])]

/-- R35: a frame that is no gauge's, or is heard in gauge role, goes to its consumers. -/
theorem State.acceptFrame_direct {f : Frame} (h : isGaugeFrame f.body = false ∨ s.loader.role = some .gauge) :
    s.acceptFrame f = s.handAll (handOver s.loader.role f) := by
  rw [State.acceptFrame, if_neg]
  rintro ⟨hrole, hf⟩
  rcases h with h | h
  · simp [h] at hf
  · simp [h] at hrole

/-- R35: the accepted gauge's frame, or the first gauge's heard. -/
theorem State.acceptFrame_accepted {f : Frame} (hrole : s.loader.role = some .drop) (hf : isGaugeFrame f.body = true)
    (hid : s.bus.gaugeId = none ∨ s.bus.gaugeId = some f.sender) : s.acceptFrame f
      = ({ s with bus := { s.bus with gaugeId := some f.sender } } : State).handAll (handOver (some .drop) f) := by
  have haccepted : acceptedGauge s.bus.gaugeId f.sender = f.sender := by
    rcases hid with h | h <;> simp [acceptedGauge, h]
  rw [State.acceptFrame, if_pos ⟨hrole, hf⟩, if_pos haccepted, hrole]

/-- R35: a frame of a gauge that is not the accepted one. -/
theorem State.acceptFrame_foreign {f : Frame} {g : Nat} (hrole : s.loader.role = some .drop)
    (hf : isGaugeFrame f.body = true) (hid : s.bus.gaugeId = some g) (hg : g ≠ f.sender) :
    s.acceptFrame f = s.bump .foreignFrames := by
  rw [State.acceptFrame, if_pos ⟨hrole, hf⟩, if_neg (by simpa [acceptedGauge, hid] using hg)]

/-- R35: what gauge-id acceptance may count. -/
theorem State.acceptFrame_counter (f : Frame) {n : CounterName} (hn : n ≠ .foreignFrames) :
    (s.acceptFrame f).counter n = s.counter n := by
  unfold State.acceptFrame
  split
  · split
    · rfl
    · exact State.bump_counter_other _ hn
  · rfl

theorem State.acceptFrame_flags (f : Frame) : (s.acceptFrame f).status.flags = s.status.flags := by
  unfold State.acceptFrame
  (repeat' split) <;> simp

@[simp] theorem State.haltReport_counter (n : CounterName) : s.haltReport.counter n = s.counter n := rfl

/-- A heard frame is always counted (R25). -/
theorem State.hearFrame_framesHeard (own : Bool) (f : Frame) :
    (s.hearFrame own f).counter .framesHeard = countUp (s.counter .framesHeard) := by
  unfold State.hearFrame
  (repeat' split) <;> simp [State.acceptFrame_counter]

theorem State.hearFrame_eq (own : Bool) (f : Frame) : s.hearFrame own f = { s with
    loader := (s.hearFrame own f).loader, bus := (s.hearFrame own f).bus, status := (s.hearFrame own f).status
    handed := (s.hearFrame own f).handed } := by
  obtain ⟨hpins, htracker, hgauge, htable, hengine, hcradles, hrelease, htie, hnow, hpending⟩ := s.hearFrame_frame own f
  generalize s.hearFrame own f = t at *
  rw [← hpins, ← htracker, ← hgauge, ← htable, ← hengine, ← hcradles, ← hrelease, ← htie, ← hnow, ← hpending]

/-- Of the bus, hearing a frame touches the accepted gauge alone. -/
theorem State.hearFrame_bus (own : Bool) (f : Frame) :
    (s.hearFrame own f).bus = { s.bus with gaugeId := (s.hearFrame own f).bus.gaugeId } := by
  unfold State.hearFrame State.acceptFrame
  dsimp only
  (repeat' split) <;> simp

theorem exec_frameSent {f : Frame} (hstate : s.bus.state = .sending) (hf : s.bus.sending = some f) :
    exec .frameSent s = .next (((({ s with bus := { s.bus with
      state := .waitGap, gap := 0, sending := none, spoilRun := 0 } } : State).bump .framesSent).hand
        (outcomeArrival f.body .sent)).hearFrame true f) := by
  simp [exec, execFrameSent, hstate, hf]

theorem exec_frameHeard_parsed {chars : List Byte} {f : Frame} (hstate : s.bus.state = .receiving)
    (hf : parseFrame chars = some f) :
    exec (.frameHeard chars) s = .next ((s.lineState .waitGap 0).hearFrame false f) := by
  simp [exec, execFrameHeard, hstate, hf]

/-- Settles O20: a frame with the own id passes the identity checks, and goes to the sender's own consumers. -/
theorem sentFrameIsHeardByItsSender : Obligations.SentFrameIsHeardByItsSender := by
  intro s f hstate hf hm hid hgood hgauge
  have hdirect : isGaugeFrame f.body = false ∨ s.loader.role = some .gauge := by
    rwa [← Bool.not_eq_true, ← imp_iff_not_or]
  refine ⟨_, exec_frameSent hstate hf, ?_⟩
  rw [State.hearFrame_good, State.acceptFrame_direct]
  · refine ⟨rfl, by simp, rfl, rfl, fun n hsent hheard => ?_, rfl, rfl⟩
    exact (State.bump_counter_other _ hheard).trans (State.bump_counter_other _ hsent)
  · exact hdirect
  · exact hm
  · exact ⟨by simp, fun ⟨_, _, hne⟩ => hne hid⟩
  · exact hgood

/-- Settles O21: the identity checks are the first of R25, and in HALTED nothing follows the count. -/
theorem identityChecksHaltTheStation : Obligations.IdentityChecksHaltTheStation := by
  intro s chars f hstate hf
  refine ⟨_, exec_frameHeard_parsed hstate hf, State.hearFrame_framesHeard _ _, by rw [State.hearFrame_bus]; rfl,
    by rw [State.hearFrame_bus]; rfl, by simp, fun hm => ?_, fun hm hid => ?_, fun hm hid hrole hgauge => ?_,
    State.hearFrame_eq _ _⟩
  · rw [State.hearFrame_not_accepting (by simp [hm])]
    exact ⟨rfl, rfl, rfl, rfl, fun n hn => State.bump_counter_other _ hn⟩
  · rw [State.hearFrame_duplicate]
    · exact ⟨rfl, rfl, rfl⟩
    · exact hm
    · exact hid
  · rw [State.hearFrame_conflict]
    · exact ⟨rfl, rfl, by simp [State.haltReport, haltBlocks, hrole]⟩
    · exact hm
    · exact hid
    · exact hrole
    · exact hgauge

/-! ### Discards -/

/-- R23: characters that make no frame are a discard. -/
theorem exec_frameHeard_unparsed {chars : List Byte} (hstate : s.bus.state = .receiving)
    (hf : parseFrame chars = none) :
    exec (.frameHeard chars) s = .next (s.countDiscard.lineState .waitGap 0) := by
  simp [exec, execFrameHeard, hstate, hf]

theorem State.countDiscard_own (hstate : s.bus.state = .receiving) (h : s.bus.ownSpoiled = true) :
    s.countDiscard = s := by
  simp [State.countDiscard, hstate, h]

theorem State.countDiscard_other (h : s.bus.state ≠ .receiving ∨ s.bus.ownSpoiled = false) :
    s.countDiscard = s.bump .receiveErrors := by
  rcases s.countDiscard_cases with ⟨hstate, hown, -⟩ | ⟨-, heq⟩
  · simp [hstate, hown] at h
  · exact heq

theorem parseFrame_of_bad_crc {chars : List Byte} (h : crcGood chars = false) : parseFrame chars = none := by
  unfold parseFrame
  dsimp only
  split
  · rfl
  · simp [h]

theorem gapAfterDiscard_eq (bitTime : Nat) (cause : DiscardCause) :
    gapAfterDiscard bitTime cause = if cause = .short then 11 * bitTime else 0 := by
  cases cause <;> rfl

theorem State.loseContention_of_none (h : ∀ q ∈ s.bus.queue, q.contended = false) : s.loseContention = s := by
  have hnone : s.contendedFrame = none := by simpa [State.contendedFrame] using h
  simp [State.loseContention, hnone]

theorem exec_frameDiscarded (cause : DiscardCause) (h : s.bus.state = .receiving ∨ s.bus.state = .contending) :
    exec (.frameDiscarded cause) s = .next ((s.countDiscard.lineState .waitGap
      (if cause = .short then 11 * bitMicros s.cfg.bitRate else 0)).loseContention) := by
  simp [exec, execFrameDiscarded, h, gapAfterDiscard_eq]

/-- R23: in RECEIVING there is no contention to lose. -/
theorem exec_frameDiscarded_receiving (cause : DiscardCause) (h : s.bus.state = .receiving)
    (hq : ∀ q ∈ s.bus.queue, q.contended = false) : exec (.frameDiscarded cause) s = .next (s.countDiscard.lineState
      .waitGap (if cause = .short then 11 * bitMicros s.cfg.bitRate else 0)) := by
  rw [exec_frameDiscarded cause (.inl h), State.loseContention_of_none (by simpa using hq)]

/-! ### Content check and consumers -/

/-- What a frame past the identity checks leaves (R25, R35). -/
structure State.HearsContent (s : State) (f : Frame) (t : State) : Prop where
  loader : t.loader = s.loader
  flags : t.status.flags = s.status.flags
  bad : contentBad s.cfg.chainLength f.body = true → t.handed = s.handed ∧ t.bus.gaugeId = s.bus.gaugeId
    ∧ t.counter .receiveErrors = countUp (s.counter .receiveErrors)
    ∧ t.counter .foreignFrames = s.counter .foreignFrames
  good : contentBad s.cfg.chainLength f.body = false → t.counter .receiveErrors = s.counter .receiveErrors
  direct : contentBad s.cfg.chainLength f.body = false → isGaugeFrame f.body = false ∨ s.loader.role = some .gauge →
    t.handed = s.handed ++ handOver s.loader.role f ∧ t.bus.gaugeId = s.bus.gaugeId
      ∧ t.counter .foreignFrames = s.counter .foreignFrames
  accepted : contentBad s.cfg.chainLength f.body = false → isGaugeFrame f.body = true → s.loader.role = some .drop →
    s.bus.gaugeId = none ∨ s.bus.gaugeId = some f.sender →
    t.handed = s.handed ++ handOver (some .drop) f ∧ t.bus.gaugeId = some f.sender
      ∧ t.counter .foreignFrames = s.counter .foreignFrames
  foreign : ∀ g, contentBad s.cfg.chainLength f.body = false → isGaugeFrame f.body = true →
    s.loader.role = some .drop → s.bus.gaugeId = some g → g ≠ f.sender →
    t.handed = s.handed ∧ t.bus.gaugeId = some g ∧ t.counter .foreignFrames = countUp (s.counter .foreignFrames)

theorem State.hearFrame_hearsContent {own : Bool} {f : Frame} (h : s.offersAccepted) (hid : s.IdentityPasses own f) :
    s.HearsContent f (s.hearFrame own f) := by
  cases hcontent : contentBad s.cfg.chainLength f.body with
  | true =>
    rw [State.hearFrame_bad h hid hcontent]
    constructor <;> simp [hcontent]
  | false =>
    rw [State.hearFrame_good h hid hcontent]
    refine ⟨by simp, State.acceptFrame_flags f, by simp [hcontent], fun _ => by simp [State.acceptFrame_counter],
      fun _ hdirect => ?_, fun _ hf hrole hg => ?_, fun g _ hf hrole hg hne => ?_⟩
    · rw [State.acceptFrame_direct (s := s.bump .framesHeard) hdirect]
      exact ⟨rfl, rfl, rfl⟩
    · rw [State.acceptFrame_accepted (s := s.bump .framesHeard) hrole hf hg]
      exact ⟨rfl, rfl, rfl⟩
    · rw [State.acceptFrame_foreign (s := s.bump .framesHeard) hrole hf hg hne]
      exact ⟨rfl, hg, rfl⟩

/-- Settles O22: content check, accepted gauge and hand-over for a frame, and the three ways of a discard. -/
theorem heardFrameReachesItsConsumer : Obligations.HeardFrameReachesItsConsumer := by
  refine ⟨fun s chars f hstate hf hm hid hgauge => ?_, fun s chars hstate hf => ⟨fun hown => ?_, fun hown => ?_⟩,
    fun _ => parseFrame_of_bad_crc, fun s cause hstate hq discarded hdiscarded => ⟨fun hown => ?_, fun hown => ?_⟩,
    fun s cause before after q hstate hq hc hb ha => ?_⟩
  · have hear := State.hearFrame_hearsContent (s := s.lineState .waitGap 0) (own := false) (f := f) hm
      ⟨fun h => hid h.2, fun ⟨hrole, hf, _⟩ => hgauge ⟨hrole, hf⟩⟩
    have hloader := hear.loader
    refine ⟨_, exec_frameHeard_parsed hstate hf, hear.loader, hear.flags, hear.bad, fun hcontent =>
      ⟨hear.good hcontent, hear.direct hcontent, hear.accepted hcontent, fun g => hear.foreign g hcontent⟩, ?_⟩
    have heq := State.hearFrame_eq (s := s.lineState .waitGap 0) false f
    rwa [hloader] at heq
  · rw [exec_frameHeard_unparsed hstate hf, State.countDiscard_other (.inr hown)]
    rfl
  · rw [exec_frameHeard_unparsed hstate hf, State.countDiscard_own hstate hown]
    rfl
  · rw [exec_frameDiscarded_receiving cause hstate hq, State.countDiscard_other (.inr hown), hdiscarded]
    rfl
  · rw [exec_frameDiscarded_receiving cause hstate hq, State.countDiscard_own hstate hown, hdiscarded]
    rfl
  · have hcount : s.countDiscard = s.bump .receiveErrors := State.countDiscard_other (.inl (by simp [hstate]))
    have hloses := State.loseContention_loses (s := (s.bump .receiveErrors).lineState .waitGap
      (if cause = .short then 11 * bitMicros s.cfg.bitRate else 0)) hq hc hb ha
    refine ⟨_, exec_frameDiscarded cause (.inr hstate), ?_⟩
    rw [hcount]
    exact ⟨hloses.bus, hloses.lost,
      (hloses.counter _ (by decide) (by decide)).trans (s.bump_counter_self .receiveErrors),
      fun n herrors hdropped hwithdrawn => (hloses.counter n hdropped hwithdrawn).trans (s.bump_counter_other herrors),
      hloses.flags, hloses.frame⟩

end Sys2Proof.Machine
end


section
namespace Sys2Proof.Machine

variable {s t u : State} {before after : List QueuedFrame} {q : QueuedFrame}

/-! ### Offers of frames that are no CLAIM -/

theorem State.offered_refused (h : ¬ s.offersAccepted) (f : Frame) : s.offered f = s := by
  simp [State.offered, State.offer, h]

theorem State.offered_joined {f : Frame} (h : s.offersAccepted) (hf : claimSlot f.body = none)
    (hroom : s.bus.queue.length < 16) : s.offered f = s.enqueue f := by
  simp [State.offered, State.offer, h, hf, queueCapacity, hroom]

theorem State.offered_evicts {f : Frame} {slot : Slot} (h : s.offersAccepted) (hf : claimSlot f.body = none)
    (hfull : 16 ≤ s.bus.queue.length) (he : lastEvictable s.bus.queue = some slot) :
    s.offered f = s.evictFor slot f := by
  simp [State.offered, State.offer, h, hf, queueCapacity, hfull.not_gt, he]

theorem State.offered_dropped {f : Frame} (h : s.offersAccepted) (hf : claimSlot f.body = none)
    (hfull : 16 ≤ s.bus.queue.length) (he : lastEvictable s.bus.queue = none) :
    s.offered f = s.bump .framesDropped := by
  simp [State.offered, State.offer, h, hf, queueCapacity, hfull.not_gt, he]

/-! ### Which CLAIM is evicted -/

/-- A frame that eviction passes by: contended, or no CLAIM (R31). -/
def QueuedFrame.Stays (q : QueuedFrame) : Prop := q.contended = true ∨ claimSlot q.frame.body = none

theorem lastEvictable_eq_none {l : List QueuedFrame} (h : ∀ x ∈ l, x.Stays) : lastEvictable l = none := by
  induction l with
  | nil => rfl
  | cons x rest ih =>
    rw [lastEvictable, ih fun y hy => h y (List.mem_cons_of_mem _ hy)]
    rcases h x List.mem_cons_self with hc | hn
    · simp [hc]
    · simp [hn]

/-- R31: the last CLAIM that is not being contended. -/
theorem lastEvictable_eq_some {slot : Slot} (hc : q.contended = false) (hq : claimSlot q.frame.body = some slot)
    (ha : ∀ x ∈ after, x.Stays) : lastEvictable (before ++ q :: after) = some slot := by
  induction before with
  | nil => simp [lastEvictable, lastEvictable_eq_none ha, hc, hq]
  | cons x rest ih => simp [lastEvictable, ih]

/-- The CLAIM of a slot leaves, and no other frame with it. -/
theorem filter_not_claimFor {slot : Slot} (hq : claimSlot q.frame.body = some slot)
    (hb : ∀ x ∈ before, claimSlot x.frame.body ≠ some slot) (ha : ∀ x ∈ after, claimSlot x.frame.body ≠ some slot) :
    (before ++ q :: after).filter (fun x => !isClaimFor slot x.frame.body) = before ++ after := by
  have hkeep (l : List QueuedFrame) (h : ∀ x ∈ l, claimSlot x.frame.body ≠ some slot) :
      l.filter (fun x => !isClaimFor slot x.frame.body) = l := by
    simpa [List.filter_eq_self, isClaimFor] using h
  rw [List.filter_append, List.filter_cons_of_neg (by simp [isClaimFor, hq]), hkeep before hb, hkeep after ha]

/-! ### YIELDs -/

/-- The YIELD as it stands in the queue at its joining. -/
theorem newQueued_yield (cfg : StationConfig) (id : Nat) (slot : Slot) (reason : YieldReason) :
    newQueued cfg (plainFrame id (.yield slot reason))
      = ⟨⟨40960 + id, .yield slot reason⟩, some cfg.yieldLifetime, 0, false, none⟩ := by
  have hvalue : contentionValue 5 0 id = 40960 + id := by rw [contentionValue]
  rw [newQueued, plainFrame, kindCode, hvalue, deadlineOf]

theorem exec_yieldRequest (hl : s.dropLoaded) (slot : Slot) (reason : YieldReason) :
    exec (.yieldRequest slot reason) s = .next ((s.taken (.yieldRequest slot reason)).offered
      (plainFrame s.stationId (.yield slot reason))) :=
  congrArg Host.Outcome.next (if_pos hl)

/-- Settles O23: the answers of an offer, with the YIELD's place by the order of values. -/
theorem yieldIsOfferedToTheQueue : Obligations.YieldIsOfferedToTheQueue := by
  intro s slot reason hrole hsorted
  have haccepted (hm : s.loader.mode = .announcing ∨ s.loader.mode = .active) :
      (s.taken (.yieldRequest slot reason)).offersAccepted := hm
  have hloaded (hm : s.loader.mode = .announcing ∨ s.loader.mode = .active) : s.dropLoaded :=
    ⟨hrole, State.loaded_of_offersAccepted hm⟩
  refine ⟨fun hm => ?_, fun hm hroom => ?_, fun hm hfull hstay => ?_,
    fun before after q claimed hm hfull hq hc hslot hstay hb ha => ?_⟩
  · rw [exec_yieldRequest ⟨hrole, .inr (.inr hm)⟩, State.offered_refused (by simp [hm])]
    rfl
  · obtain ⟨before, after, hq, hb, ha, hins⟩ := insertByValue_eq_append
      ⟨⟨40960 + s.stationId, .yield slot reason⟩, some s.cfg.yieldLifetime, 0, false, none⟩ hsorted
    refine ⟨before, after, hq, hb, ha, ?_⟩
    rw [exec_yieldRequest (hloaded hm), State.offered_joined (haccepted hm) rfl hroom, State.enqueue, newQueued_yield,
      ← hins]
    rfl
  · rw [exec_yieldRequest (hloaded hm), State.offered_dropped (haccepted hm) rfl hfull (lastEvictable_eq_none hstay)]
    rfl
  · have hlast : lastEvictable s.bus.queue = some claimed := by rw [hq, lastEvictable_eq_some hc hslot hstay]
    have hleft : s.bus.queue.filter (fun x => !isClaimFor claimed x.frame.body) = before ++ after := by
      rw [hq, filter_not_claimFor hslot hb ha]
    refine ⟨_, exec_yieldRequest (hloaded hm) slot reason, ?_⟩
    rw [State.offered_evicts (haccepted hm) rfl hfull hlast]
    refine ⟨?_, rfl, State.bump_counter_self _ _, rfl⟩
    rw [← newQueued_yield, ← hleft]
    exact insertByValue_perm _ _

/-! ### Deadlines -/

/-- A walk that expires frames counts each and tells its owner, in the queue's order (R32; log 39). -/
theorem foldl_expire_eq (l : List QueuedFrame) (s : State) : l.foldl (fun t q => t.expire q.frame.body) s = { s with
    status := { s.status with counters := (l.foldl (fun t q => t.expire q.frame.body) s).status.counters }
    handed := s.handed ++ l.map (fun q => outcomeArrival q.frame.body .expired) } := by
  induction l generalizing s with
  | nil => simp
  | cons q rest ih =>
    rw [List.foldl_cons, ih]
    simp [State.expire]

theorem foldl_expire_dropped (l : List QueuedFrame) (s : State) :
    (l.foldl (fun t q => t.expire q.frame.body) s).counter .framesDropped
      = countUp^[l.length] (s.counter .framesDropped) := by
  induction l generalizing s with
  | nil => rfl
  | cons q rest ih =>
    have hfirst : (s.expire q.frame.body).counter .framesDropped = countUp (s.counter .framesDropped) :=
      s.bump_counter_self .framesDropped
    rw [List.foldl_cons, ih, List.length_cons, Function.iterate_succ_apply, hfirst]

theorem foldl_expire_counter {n : CounterName} (hn : n ≠ .framesDropped) (l : List QueuedFrame) (s : State) :
    (l.foldl (fun t q => t.expire q.frame.body) s).counter n = s.counter n :=
  foldl_keeps (fun t : State => t.counter n = s.counter n) (fun t q => t.expire q.frame.body)
    (fun t _ h => (t.bump_counter_other hn).trans h) l s rfl

/-- R32: the carrier count of a frame after a notice. -/
def QueuedFrame.countAfter (q : QueuedFrame) : Nat :=
  match q.frame.body with
  | .stem _ _ _ _ _ => q.count + 1
  | .yield _ _ => q.count + 1
  | .claim _ _ => q.count
  | .lot _ _ => q.count
  | .hello _ => q.count

theorem raiseCount_eq (q : QueuedFrame) : raiseCount q = { q with count := q.countAfter } := by
  obtain ⟨⟨value, body⟩, deadline, count, contended, event⟩ := q
  cases body <;> rfl

theorem exec_carrierNotice (hl : s.loaded) (here : Slot) :
    exec (.carrierNotice here) s = .next ((s.taken (.carrierNotice here)).takeCarrierNotice here) :=
  congrArg Host.Outcome.next (if_pos hl)

/-- R32: what a frame that stays holds after the notice. -/
theorem holdExpiry_eq {chain : Nat} {here : Slot} (hstays : (deadlinePassed chain here q && !q.contended) = false) :
    holdExpiry chain here q = { q with
      heldEvent := if deadlinePassed chain here q = true then some (q.heldEvent.getD .expired) else q.heldEvent } := by
  unfold holdExpiry
  by_cases hdue : deadlinePassed chain here q = true
  · have hc : q.contended = true := by simpa [hdue] using hstays
    rw [if_pos ⟨hdue, hc⟩, if_pos hdue]
  · rw [if_neg (fun h => hdue h.1), if_neg hdue]

/-- The queue after a notice, with `due` the test of the deadlines on the raised counts (R32). -/
theorem State.takeCarrierNotice_eq {here : Slot} {due : QueuedFrame → Bool}
    (hdue : ∀ q, due q = deadlinePassed s.cfg.chainLength here (raiseCount q)) :
    s.takeCarrierNotice here = (s.bus.queue.filter (fun q => due q && !q.contended)).foldl
      (fun t q => t.expire q.frame.body) { s with bus := { s.bus with
        queue := (s.bus.queue.filter (fun q => !(due q && !q.contended))).map (fun q => { q with
          count := q.countAfter
          heldEvent := if due q = true then some (q.heldEvent.getD .expired) else q.heldEvent }) } } := by
  have hcontended (q : QueuedFrame) : (raiseCount q).contended = q.contended := by rw [raiseCount_eq]
  have hstay (q : QueuedFrame) (hq : (due q && !q.contended) = false) :
      holdExpiry s.cfg.chainLength here (raiseCount q) = { q with
        count := q.countAfter
        heldEvent := if due q = true then some (q.heldEvent.getD .expired) else q.heldEvent } := by
    rw [holdExpiry_eq (by rwa [hcontended, ← hdue]), ← hdue, raiseCount_eq]
  simp only [State.takeCarrierNotice, List.filter_map, List.map_map, List.foldl_map, Function.comp_def, ← hdue,
    hcontended, raiseCount_frame]
  congr 3
  refine List.map_congr_left fun q hq => hstay q ?_
  simpa only [Bool.not_eq_true'] using (List.mem_filter.mp hq).2

/-- Settles O24: the raised counts, the frames that stay, and the walk over those that expire. -/
theorem carrierNoticeAgesTheQueue : Obligations.CarrierNoticeAgesTheQueue := by
  intro s here count due leaving hl hcount hdue hleaving
  have hcountAfter : count = QueuedFrame.countAfter := funext hcount
  have hpassed (q : QueuedFrame) : due q = deadlinePassed (s.taken (.carrierNotice here)).cfg.chainLength here
      (raiseCount q) := by
    rw [hdue, hcountAfter, raiseCount_eq, deadlinePassed]
    cases q.deadline <;> cases claimSlot q.frame.body <;> rfl
  refine ⟨_, exec_carrierNotice hl here, ?_⟩
  rw [State.takeCarrierNotice_eq hpassed, hcountAfter, hleaving]
  refine ⟨foldl_expire _ _, by rw [foldl_expire_eq]; rfl, foldl_expire_dropped _ _,
    fun n hn => foldl_expire_counter hn _ _, by rw [foldl_expire_eq]; rfl, ?_⟩
  rw [foldl_expire_eq]
  rfl

/-! ### Removal requests -/

/-- R33: the answer stands with the frame it names, and the owner of a frame removed at once is told. -/
theorem exec_removalRequest (hl : s.loaded) (body : FrameBody) : exec (.removalRequest body) s = .next { s with
    bus := { s.bus.takeRemoval body (s.bus.removalAnswerNow body) with
      removalAnswer := some ⟨body, s.bus.removalAnswerNow body⟩ }
    handed := s.handed.erase (.removalRequest body)
      ++ if s.bus.removalAnswerNow body = .removed then [outcomeArrival body .removed] else [] } := by
  refine (congrArg Host.Outcome.next (if_pos hl)).trans (congrArg Host.Outcome.next ?_)
  simp only [State.requestRemoval, State.taken_bus]
  cases s.bus.removalAnswerNow body with
  | removed => rfl
  | deferred | inTransmission | notQueued => simp

/-- The frame that a request names, first of its kind in the queue. -/
theorem find?_sameFrame {body : FrameBody} (hq : sameFrame body q.frame.body = true)
    (hb : ∀ x ∈ before, sameFrame body x.frame.body = false) :
    (before ++ q :: after).find? (fun x => sameFrame body x.frame.body) = some q := by
  have hnone : before.find? (fun x => sameFrame body x.frame.body) = none := by simpa using hb
  simp [List.find?_append, hnone, hq]

theorem eraseP_sameFrame {body : FrameBody} (hq : sameFrame body q.frame.body = true)
    (hb : ∀ x ∈ before, sameFrame body x.frame.body = false) :
    (before ++ q :: after).eraseP (fun x => sameFrame body x.frame.body) = before ++ after := by
  rw [List.eraseP_append_right _ (by simpa using hb)]
  simp [hq]

/-- R30: the request is held for the one frame that it names and that is being contended. -/
theorem map_holdRemoval {body : FrameBody} (hq : sameFrame body q.frame.body = true) (hc : q.contended = true)
    (hb : ∀ x ∈ before, sameFrame body x.frame.body = false) (ha : ∀ x ∈ after, x.contended = false) :
    (before ++ q :: after).map (holdRemoval body)
      = before ++ { q with heldEvent := some (q.heldEvent.getD .removed) } :: after := by
  have hkeep (l : List QueuedFrame) (h : ∀ x ∈ l, sameFrame body x.frame.body = false ∨ x.contended = false) :
      l.map (holdRemoval body) = l := by
    refine (List.map_congr_left fun x hx => if_neg ?_).trans (List.map_id' l)
    rintro ⟨hsame, hcontended⟩
    rcases h x hx with h | h
    · simp [hsame] at h
    · simp [hcontended] at h
  rw [List.map_append, List.map_cons, hkeep before fun x hx => .inl (hb x hx), hkeep after fun x hx => .inr (ha x hx),
    holdRemoval, if_pos ⟨hq, hc⟩]

/-- Settles O25: the three places in which a request finds its frame, or none. -/
theorem removalRequestIsAnswered : Obligations.RemovalRequestIsAnswered := by
  intro s body hl
  refine ⟨fun before q after hqueue hq hb hc => ?_, fun before q after hqueue hq hb hc ha => ?_, fun hnone => ?_⟩
  · have hanswer : s.bus.removalAnswerNow body = .removed := by
      simp [LineBus.removalAnswerNow, hqueue, find?_sameFrame hq hb, hc]
    rw [exec_removalRequest hl, hanswer]
    simp [LineBus.takeRemoval, hqueue, eraseP_sameFrame hq hb]
  · have hanswer : s.bus.removalAnswerNow body = .deferred := by
      simp [LineBus.removalAnswerNow, hqueue, find?_sameFrame hq hb, hc]
    rw [exec_removalRequest hl, hanswer]
    simp [LineBus.takeRemoval, hqueue, map_holdRemoval hq hc hb ha]
  · have hfind : s.bus.queue.find? (fun x => sameFrame body x.frame.body) = none := by simpa using hnone
    rw [exec_removalRequest hl]
    cases hsending : s.bus.sending with
    | none => simp [LineBus.removalAnswerNow, hfind, hsending, LineBus.takeRemoval]
    | some f =>
      cases hsame : sameFrame body f.body <;>
        simp [LineBus.removalAnswerNow, hfind, hsending, hsame, LineBus.takeRemoval]

end Sys2Proof.Machine
end


section
namespace Sys2Proof.Machine

/-! ### The CRC, bit by bit -/

/-- R24: the register takes in the bits of the characters one after the other. -/
theorem crcOf_eq_foldl_bits (chars : List Byte) : crcOf chars = (chars.flatMap bitsOf).foldl crcBit 0xFFFF#16 := by
  rw [List.foldl_flatMap]
  rfl

theorem crcGood_iff (chars : List Byte) : crcGood chars = true ↔ crcOf chars = 0#16 := by
  rw [crcGood, beq_iff_eq]

/-- A bit rule with the terms 1, x^5 and x^12 is the register's own. -/
theorem eq_crcBit_of_getLsbD {takeIn : Word16 → Bool → Word16}
    (h : ∀ register bit i, i < 16 → (takeIn register bit).getLsbD i = ((decide (1 ≤ i) && register.getLsbD (i - 1))
      ^^ ((register.getLsbD 15 ^^ bit) && decide (i = 0 ∨ i = 5 ∨ i = 12)))) : takeIn = crcBit := by
  funext register bit
  exact BitVec.eq_of_getLsbD_eq fun i hi => (h register bit i hi).trans (crcBit_getLsbD register bit i hi).symm

/-! ### The CRC of a frame with its CRC -/

/-- A register that takes in its own top bit shifts. -/
theorem crcBit_msb (register : Word16) : crcBit register register.msb = register <<< 1 := by
  simp [crcBit]

/-- A register that takes in its own bits from the top runs empty. -/
theorem foldl_crcBit_own (register : Word16) (n : Nat) (hn : n ≤ 16) :
    (List.range n).foldl (fun r i => crcBit r (register.getLsbD (15 - i))) register = register <<< n := by
  induction n with
  | zero => simp
  | succ n ih =>
    have htop : register.getLsbD (15 - n) = (register <<< n).msb := by
      rw [BitVec.msb_eq_getLsbD_last, BitVec.getLsbD_shiftLeft]
      simp
      omega
    rw [List.range_succ, List.foldl_append, ih (by omega), List.foldl_cons, List.foldl_nil, htop, crcBit_msb,
      ← BitVec.shiftLeft_add]

/-- The two characters of a word, high half first. -/
def wordChars (w : Word16) : List Byte := [w.extractLsb' 8 8, w.extractLsb' 0 8]

theorem bytesOf_two_word (w : Word16) : bytesOf 2 w.toNat = wordChars w := by
  simp [bytesOf, wordChars, BitVec.extractLsb', Nat.shiftRight_eq_div_pow]

theorem wordChars_bits (w : Word16) :
    (wordChars w).flatMap bitsOf = (List.range 16).map (fun i => w.getLsbD (15 - i)) := by
  simp [wordChars, bitsOf, List.range_succ]

/-- R24: characters followed by their CRC leave the register at zero. -/
theorem crcGood_append_crc (chars : List Byte) : crcGood (chars ++ wordChars (crcOf chars)) = true := by
  rw [crcGood_iff, crcOf_eq_foldl_bits, List.flatMap_append, List.foldl_append, ← crcOf_eq_foldl_bits, wordChars_bits,
    List.foldl_map, foldl_crcBit_own _ 16 (le_refl 16)]
  simp

/-! ### Numbers and their characters -/

theorem bytesOf_length (n v : Nat) : (bytesOf n v).length = n := by
  induction n with
  | zero => rfl
  | succ n ih => rw [bytesOf, List.length_cons, ih]

theorem foldl_bytesOf (n v acc : Nat) :
    (bytesOf n v).foldl (fun acc b => acc * 256 + b.toNat) acc = acc * 256 ^ n + v % 256 ^ n := by
  induction n generalizing acc with
  | zero => simp [bytesOf, Nat.mod_one]
  | succ n ih =>
    have hsplit := Nat.mod_pow_succ (x := v) (b := 256) (k := n)
    rw [bytesOf, List.foldl_cons, ih, BitVec.toNat_ofNat, hsplit, pow_succ]
    ring_nf

/-- The low characters of a number that they can hold spell it. -/
theorem numberOf_bytesOf {n v : Nat} (h : v < 256 ^ n) : numberOf (bytesOf n v) = v := by
  rw [numberOf, foldl_bytesOf, Nat.mod_eq_of_lt h]
  omega

/-! ### Fields of a payload -/

/-- R183: a slot field's bound as an inequality of numbers. -/
theorem slotInRange_iff (n : Nat) : slotInRange n = true ↔ n < 1023 := decide_eq_true_iff

theorem nibbleInRange_iff (n : Nat) : nibbleInRange n = true ↔ n < 16 := decide_eq_true_iff

theorem payloadBytes_length (body : FrameBody) :
    (payloadBytes body).length = (payloadChars (kindCode body)).getD 0 :=
  bytesOf_length _ _

theorem payloadChars_kindCode (body : FrameBody) : payloadChars (kindCode body) = some (payloadBytes body).length := by
  cases body <;> simp [payloadBytes, bytesOf_length, kindCode, payloadChars]

theorem rejectOf_rejectCode (reason : RejectReason) : rejectOf (rejectCode reason) = reason := by
  cases reason <;> rfl

theorem rejectCode_lt (reason : RejectReason) : rejectCode reason < 4 := by
  cases reason <;> decide

theorem yieldOf_yieldCode (reason : YieldReason) : yieldOf (yieldCode reason) = reason := by
  cases reason <;> rfl

theorem yieldCode_lt (reason : YieldReason) : yieldCode reason < 4 := by
  cases reason <;> decide

theorem cradleOf_cradleCode (c : CradleId) : cradleOf (cradleCode c) = c := by
  cases c <;> rfl

theorem cradleCode_lt (c : CradleId) : cradleCode c < 2 := by
  cases c <;> decide

/-- R183: the payload's number fits its characters. -/
theorem payloadNumber_lt {body : FrameBody} (h : body.wellFormed = true) :
    payloadNumber body < 256 ^ (payloadBytes body).length := by
  cases body with
  | stem slot cls length lotNo reason =>
    have hreason := rejectCode_lt reason
    simp only [FrameBody.wellFormed, slotInRange_iff, nibbleInRange_iff, Bool.and_eq_true, decide_eq_true_eq] at h
    simp only [payloadBytes, bytesOf_length, kindCode, payloadChars, Option.getD_some, payloadNumber]
    omega
  | claim slot c =>
    have hcradle := cradleCode_lt c
    simp only [FrameBody.wellFormed, slotInRange_iff] at h
    simp only [payloadBytes, bytesOf_length, kindCode, payloadChars, Option.getD_some, payloadNumber]
    omega
  | yield slot reason =>
    have hreason := yieldCode_lt reason
    simp only [FrameBody.wellFormed, slotInRange_iff] at h
    simp only [payloadBytes, bytesOf_length, kindCode, payloadChars, Option.getD_some, payloadNumber]
    omega
  | lot lotNo lastSlot =>
    simp only [FrameBody.wellFormed, slotInRange_iff, nibbleInRange_iff, Bool.and_eq_true] at h
    simp only [payloadBytes, bytesOf_length, kindCode, payloadChars, Option.getD_some, payloadNumber]
    omega
  | hello code =>
    simp only [FrameBody.wellFormed, decide_eq_true_eq] at h
    simp only [payloadBytes, bytesOf_length, kindCode, payloadChars, Option.getD_some, payloadNumber]
    omega

/-! ### Reading the fields back -/

theorem stem_fields {slot cls length lotNo code : Nat} (hslot : slot < 1023) (hcls : cls < 16) (hlength : length < 2048)
    (hlot : lotNo < 16) (hcode : code < 4) :
    ((((slot * 16 + cls) * 2048 + length) * 16 + lotNo) * 4 + code) * 512 / 2 ^ 30 % 1024 = slot
    ∧ ((((slot * 16 + cls) * 2048 + length) * 16 + lotNo) * 4 + code) * 512 / 2 ^ 26 % 16 = cls
    ∧ ((((slot * 16 + cls) * 2048 + length) * 16 + lotNo) * 4 + code) * 512 / 2 ^ 15 % 2048 = length
    ∧ ((((slot * 16 + cls) * 2048 + length) * 16 + lotNo) * 4 + code) * 512 / 2 ^ 11 % 16 = lotNo
    ∧ ((((slot * 16 + cls) * 2048 + length) * 16 + lotNo) * 4 + code) * 512 / 2 ^ 9 % 4 = code := by
  omega

theorem claim_fields {slot code : Nat} (hslot : slot < 1023) (hcode : code < 2) :
    (slot * 2 + code) * 32 / 64 % 1024 = slot ∧ (slot * 2 + code) * 32 / 32 % 2 = code := by
  omega

theorem yield_fields {slot code : Nat} (hslot : slot < 1023) (hcode : code < 4) :
    (slot * 4 + code) * 16 / 64 % 1024 = slot ∧ (slot * 4 + code) * 16 / 16 % 4 = code := by
  omega

theorem lot_fields {lotNo lastSlot : Nat} (hlot : lotNo < 16) (hslot : lastSlot < 1023) :
    (lotNo * 1024 + lastSlot) * 4 / 4096 % 16 = lotNo ∧ (lotNo * 1024 + lastSlot) * 4 / 4 % 1024 = lastSlot := by
  omega

theorem bodyOf_stem (payload : Nat) : bodyOf 6 payload = some (.stem (payload / 2 ^ 30 % 1024) (payload / 2 ^ 26 % 16)
    (payload / 2 ^ 15 % 2048) (payload / 2 ^ 11 % 16) (rejectOf (payload / 2 ^ 9 % 4))) := rfl

theorem bodyOf_yield (payload : Nat) :
    bodyOf 5 payload = some (.yield (payload / 64 % 1024) (yieldOf (payload / 16 % 4))) := rfl

theorem bodyOf_claim (payload : Nat) :
    bodyOf 3 payload = some (.claim (payload / 64 % 1024) (cradleOf (payload / 32 % 2))) := rfl

theorem bodyOf_lot (payload : Nat) : bodyOf 2 payload = some (.lot (payload / 4096 % 16) (payload / 4 % 1024)) := rfl

theorem bodyOf_hello (payload : Nat) : bodyOf 1 payload = some (.hello (payload % 256)) := rfl

/-- R183: each field is read back from its place. -/
theorem bodyOf_payloadNumber {body : FrameBody} (h : body.wellFormed = true) :
    bodyOf (kindCode body) (payloadNumber body) = some body := by
  cases body with
  | stem slot cls length lotNo reason =>
    simp only [FrameBody.wellFormed, slotInRange_iff, nibbleInRange_iff, Bool.and_eq_true, decide_eq_true_eq] at h
    obtain ⟨⟨⟨hslot, hcls⟩, hlength⟩, hlot⟩ := h
    obtain ⟨hs, hc, hl, ho, hr⟩ := stem_fields hslot hcls hlength hlot (rejectCode_lt reason)
    rw [kindCode, payloadNumber, bodyOf_stem, hs, hc, hl, ho, hr, rejectOf_rejectCode]
  | claim slot c =>
    obtain ⟨hs, hc⟩ := claim_fields ((slotInRange_iff slot).mp h) (cradleCode_lt c)
    rw [kindCode, payloadNumber, bodyOf_claim, hs, hc, cradleOf_cradleCode]
  | yield slot reason =>
    obtain ⟨hs, hr⟩ := yield_fields ((slotInRange_iff slot).mp h) (yieldCode_lt reason)
    rw [kindCode, payloadNumber, bodyOf_yield, hs, hr, yieldOf_yieldCode]
  | lot lotNo lastSlot =>
    simp only [FrameBody.wellFormed, slotInRange_iff, nibbleInRange_iff, Bool.and_eq_true] at h
    obtain ⟨hl, hs⟩ := lot_fields h.1 h.2
    rw [kindCode, payloadNumber, bodyOf_lot, hl, hs]
  | hello code =>
    rw [kindCode, payloadNumber, bodyOf_hello, Nat.mod_eq_of_lt (by simpa [FrameBody.wellFormed] using h)]

/-! ### A frame's characters -/

/-- R24: the CRC follows the characters before it. -/
theorem frameBytes_eq (f : Frame) : frameBytes f = bodyBytes f ++ wordChars (crcOf (bodyBytes f)) := by
  rw [frameBytes, bytesOf_two_word]

theorem crcGood_frameBytes (f : Frame) : crcGood (frameBytes f) = true := by
  rw [frameBytes_eq, crcGood_append_crc]

/-- R21: the kind code stands in a contention value's top three bits. -/
theorem contentionValue_kind {specific id : Nat} (body : FrameBody) (hs : specific < 128) (hid : id < 64) :
    contentionValue (kindCode body) specific id / 8192 = kindCode body
      ∧ contentionValue (kindCode body) specific id < 256 ^ 2 := by
  have hkind : kindCode body ≤ 6 := by cases body <;> simp [kindCode]
  unfold contentionValue
  omega

/-- The characters of a frame whose fields have their widths are read back as it. -/
theorem parseFrame_frameBytes {f : Frame} (hkind : f.value / 8192 = kindCode f.body) (hvalue : f.value < 256 ^ 2)
    (hbody : f.body.wellFormed = true) : parseFrame (frameBytes f) = some f := by
  have hlength : (frameBytes f).length = (payloadBytes f.body).length + 4 := by
    simp [frameBytes, bodyBytes, bytesOf_length]
    omega
  have hhead : (frameBytes f).take 2 = bytesOf 2 f.value := by
    rw [frameBytes, bodyBytes, List.append_assoc, List.take_left' (bytesOf_length _ _)]
  have hpayload : ((frameBytes f).drop 2).take (payloadBytes f.body).length = payloadBytes f.body := by
    rw [frameBytes, bodyBytes, List.append_assoc, List.drop_left' (bytesOf_length _ _), List.take_left' rfl]
  have hnumber : numberOf (payloadBytes f.body) = payloadNumber f.body := by
    have hfits := payloadNumber_lt hbody
    rw [payloadBytes_length] at hfits
    exact numberOf_bytesOf hfits
  unfold parseFrame
  dsimp only
  rw [hhead, numberOf_bytesOf hvalue, hkind, payloadChars_kindCode]
  dsimp only
  rw [if_pos ⟨hlength, crcGood_frameBytes f⟩, hpayload, hnumber, bodyOf_payloadNumber hbody]
  rfl

/-- Settles O27: the bits into the register, the frame's characters, and their reading. -/
theorem frameIsReadBackFromItsCharacters : Obligations.FrameIsReadBackFromItsCharacters := by
  refine ⟨fun body specific id f hbody hs hid hf => ?_, fun takeIn h chars => ?_, crcGood_iff⟩
  · have hread : (f.value / 8192 = kindCode f.body ∧ f.value < 256 ^ 2) ∧ f.body.wellFormed = true := by
      rw [hf]
      exact ⟨contentionValue_kind body hs hid, hbody⟩
    have hsame : f.body = body := by rw [hf]
    obtain ⟨⟨hkind, hvalue⟩, hbody⟩ := hread
    rw [← hsame]
    refine ⟨parseFrame_frameBytes hkind hvalue hbody, crcGood_frameBytes f,
      ⟨payloadBytes f.body, payloadChars_kindCode f.body, fun sent hsent => ?_⟩, rfl⟩
    have hbytes : bodyBytes f = sent := by
      rw [hsent, bodyBytes]
      simp [bytesOf]
    rw [frameBytes_eq, hbytes, wordChars]
  · rw [eq_crcBit_of_getLsbD h]
    exact crcOf_eq_foldl_bits chars

end Sys2Proof.Machine
end


section
/-! SUPPORT. Proofs of the statements on stem gauging: what leaves the Gauge Unit alone, its issue watch and lost run, the
counting of scan results, the close of a measure window with its offers, the watch at an arrival. -/

namespace Sys2Proof.Machine

variable {s t : State}

/-! ### The Gauge Unit under the operations of other blocks -/

/-- A walk whose every stride leaves the Gauge Unit leaves it. -/
theorem foldl_gauge {α : Type} (f : State → α → State) (hf : ∀ t a, (f t a).gauge = t.gauge) (l : List α) (s : State) :
    (l.foldl f s).gauge = s.gauge :=
  foldl_keeps (fun t => t.gauge = s.gauge) f (fun t a h => (hf t a).trans h) l s rfl

@[simp] theorem State.takeCarrierNotice_gauge (here : Slot) : (s.takeCarrierNotice here).gauge = s.gauge :=
  foldl_gauge _ (by simp) _ _

theorem State.gauge_of_offer {f : Frame} {answer : OfferAnswer} (h : s.offer f = (answer, t)) : t.gauge = s.gauge := by
  obtain ⟨-, -, -, hgauge, -⟩ := s.offer_frame f
  rwa [h] at hgauge

theorem State.gauge_of_requestRemoval {b : FrameBody} {answer : RemovalAnswer} (h : s.requestRemoval b = (answer, t)) :
    t.gauge = s.gauge := by
  obtain ⟨-, -, -, hgauge, -⟩ := s.requestRemoval_frame b
  rwa [h] at hgauge

@[simp] theorem State.claim_gauge (e : FlightEntry) (service : ServiceEntry) (c : CradleId) :
    (s.claim e service c).gauge = s.gauge := by
  unfold State.claim
  dsimp only
  split <;> next answer => simp [State.gauge_of_offer answer]

@[simp] theorem State.judgeEntry_gauge (slot : Slot) : (s.judgeEntry slot).gauge = s.gauge := by
  unfold State.judgeEntry
  (repeat' split) <;> simp

@[simp] theorem State.runPass_gauge : s.runPass.gauge = s.gauge := foldl_gauge _ (by simp) _ _

@[simp] theorem State.claimDeadlines_gauge (here : Slot) : (s.claimDeadlines here).gauge = s.gauge :=
  foldl_gauge _ (by simp) _ _

@[simp] theorem State.ordinaryArrival_gauge (a : Arrival) : (s.ordinaryArrival a).gauge = s.gauge := by
  simp [State.ordinaryArrival, foldl_gauge]

@[simp] theorem State.slipArrival_gauge (a : Arrival) : (s.slipArrival a).gauge = s.gauge := by
  simp [State.slipArrival, State.replace, foldl_gauge]

@[simp] theorem State.giveBackAll_gauge (reason : YieldReason) : (s.giveBackAll reason).gauge = s.gauge :=
  foldl_gauge _ (by simp) _ _

@[simp] theorem State.giveBackCradle_gauge (c : CradleId) : (s.giveBackCradle c).gauge = s.gauge :=
  foldl_gauge _ (by simp) _ _

@[simp] theorem State.cancelCleared_gauge (c : CradleId) : (s.cancelCleared c).gauge = s.gauge := by
  unfold State.cancelCleared
  (repeat' split) <;> simp

@[simp] theorem State.takeModeNotice_gauge (block : Block) (held : Bool) :
    (s.takeModeNotice block held).gauge = s.gauge := by
  cases block <;> simp [State.takeModeNotice]

@[simp] theorem State.missAcknowledge_gauge : s.missAcknowledge.gauge = s.gauge := by
  unfold State.missAcknowledge
  (repeat' split) <;> rfl

@[simp] theorem State.retryRead_gauge : s.retryRead.gauge = s.gauge := by
  unfold State.retryRead
  split <;> rfl

end Sys2Proof.Machine
end

section
namespace Sys2Proof.Machine

variable {s t : State}

/-! ### The issue watch and the lost run -/

/-- Neither the entries of the watch nor the lost run. -/
theorem State.watchSound.of_same (hs : s.watchSound) (hwatch : t.gauge.watch = s.gauge.watch)
    (hrun : t.gauge.lostRun = s.gauge.lostRun) : t.watchSound := by
  rwa [State.watchSound, hwatch, hrun]

theorem State.watchSound.of_gauge (hs : s.watchSound) (h : t.gauge = s.gauge) : t.watchSound :=
  hs.of_same (by rw [h]) (by rw [h])

/-- A watch emptied at reset or at the entry to HALTED. -/
theorem State.watchSound_of_empty (hwatch : s.gauge.watch = []) (hrun : s.gauge.lostRun ≤ lostLimit) :
    s.watchSound := by
  simp [State.watchSound, hwatch, hrun]

theorem watchSound_ite {p : Prop} [Decidable p] {a b : State} (ha : p → a.watchSound) (hb : ¬ p → b.watchSound) :
    (if p then a else b).watchSound := by
  split
  case isTrue hp => exact ha hp
  case isFalse hp => exact hb hp

/-- A watch from which entries may have left and in which horizons may have changed. -/
theorem State.watchSound.of_sublist (hs : s.watchSound)
    (hwatch : (t.gauge.watch.map (fun e => e.slot)).Sublist (s.gauge.watch.map (fun e => e.slot)))
    (hrun : t.gauge.lostRun = s.gauge.lostRun) : t.watchSound := by
  obtain ⟨hlen, hnodup, hlost⟩ := hs
  have hle := hwatch.length_le
  rw [List.length_map, List.length_map] at hle
  exact ⟨hle.trans hlen, hnodup.sublist hwatch, hrun.trans_le hlost⟩

theorem State.watched_iff {slot : Slot} : s.watched slot = true ↔ slot ∈ s.gauge.watch.map (fun e => e.slot) := by
  simp [State.watched]

/-- R60, R63: an entry joins a watch that has room and none for its slot. -/
theorem State.watchSound.joinWatch (hs : s.watchSound) {slot : Slot} (cls : Option Nat)
    (hnew : s.watched slot ≠ true) (hroom : s.gauge.watch.length < watchCapacity) :
    (s.joinWatch slot cls).watchSound := by
  obtain ⟨-, hnodup, hlost⟩ := hs
  have hout : slot ∉ s.gauge.watch.map (fun e => e.slot) := mt State.watched_iff.mpr hnew
  refine ⟨by simpa [State.joinWatch] using hroom, ?_, hlost⟩
  simpa [State.joinWatch, List.nodup_append, hnodup] using hout

@[simp] theorem State.runOut_gauge (cls : Option Nat) :
    (s.runOut cls).gauge = { s.gauge with lastUnserved := some (unservedClass cls) } := rfl

/-- R60: with the older entry for the slot gone, the STEM's joins, or runs out, or finds the watch full. -/
theorem State.watchSound.watchFresh (hs : s.watchSound) {slot : Slot} (hnew : s.watched slot ≠ true) (cls : Nat) :
    (s.watchFresh slot cls).watchSound :=
  watchSound_ite (fun _ => hs.of_gauge rfl) fun hfull =>
    watchSound_ite (fun _ => hs.joinWatch _ hnew (Nat.lt_of_not_le hfull)) fun _ => hs.of_same rfl rfl

theorem State.watchSound.watchYield (hs : s.watchSound) (slot : Slot) : (s.watchYield slot).watchSound :=
  watchSound_ite (fun _ => hs) fun hnew => watchSound_ite (fun _ => hs) fun _ => watchSound_ite (fun _ => hs) fun _ =>
    watchSound_ite (fun _ => hs.of_gauge rfl) fun hfull => hs.joinWatch _ hnew (Nat.lt_of_not_le hfull)

theorem State.watchSound.unwatch (hs : s.watchSound) (slot : Slot) : (s.unwatch slot).watchSound :=
  hs.of_sublist (List.filter_sublist.map _) rfl

theorem State.unwatch_not_watched (slot : Slot) : (s.unwatch slot).watched slot ≠ true := by
  simp [State.watched]

/-- R59, R62: entries at the horizon leave. -/
theorem State.watchSound.workWatch (hs : s.watchSound) (here : Slot) : (s.workWatch here).watchSound := by
  refine foldl_keeps State.watchSound _ (fun t (e : WatchEntry) ht => ht.of_same (t := t.runOut e.cls) rfl rfl) _ _
    (hs.of_sublist ?_ rfl)
  have hslots : (s.gauge.watch.map (refreshEntry s.cfg here)).map (fun e => e.slot)
      = s.gauge.watch.map (fun e => e.slot) := by
    simp [refreshEntry, Function.comp_def]
  exact hslots ▸ List.filter_sublist.map _

/-- R41: the lost run stops at 8. -/
theorem State.watchSound.noteResult (hs : s.watchSound) (r : ScanResult) : (s.noteResult r).watchSound := by
  obtain ⟨hlen, hnodup, -⟩ := hs
  unfold State.noteResult
  refine watchSound_ite (fun _ => ?_) fun _ => ⟨hlen, hnodup, Nat.zero_le _⟩
  have hcounted : (({ s with gauge := { s.gauge with lostRun := min (s.gauge.lostRun + 1) lostLimit } } : State).bump
      .scansLost).watchSound := ⟨hlen, hnodup, Nat.min_le_right _ _⟩
  exact watchSound_ite (fun _ => hcounted.of_gauge rfl) fun _ => hcounted

theorem State.bumpSome_gauge (n : Option CounterName) : (s.bumpSome n).gauge = s.gauge := by
  cases n <;> rfl

@[simp] theorem State.advanceLot_gauge : s.advanceLot.gauge = { s.gauge with
    pendingPress := false, lastStemSlot := none, lotNumber := (s.gauge.lotNumber + 1) % 16 } := rfl

/-- R53: what an issue leaves of the Gauge Unit is the last stem slot. -/
theorem State.issue_gauge (slot : Slot) (e : Evaluation) :
    (s.issue slot e).gauge = { s.gauge with lastStemSlot := s.lastStemAfter slot e } := by
  cases e with
  | empty => rfl
  | stem cls length reason =>
    show (s.issueStem slot cls length reason).gauge = _
    unfold State.issueStem
    split <;> simp [State.bumpSome_gauge, State.lastStemAfter]

/-- R57: what a press leaves of the Gauge Unit. -/
theorem State.takePress_gauge : s.takePress.gauge = { s.gauge with
    pendingPress := false, lastStemSlot := none, lotNumber := (s.gauge.lotNumber + 1) % 16 } := by
  unfold State.takePress
  split <;> simp

/-- R44, R57: what the close of a window leaves of the Gauge Unit. -/
theorem State.closeMeasure_gauge (w : MeasureWindow) : (s.closeMeasure w).gauge =
    if s.gauge.pendingPress = true then { s.gauge with
      window := none, pendingPress := false, lastStemSlot := none, lotNumber := (s.gauge.lotNumber + 1) % 16 }
    else { s.gauge with
      window := none
      lastStemSlot := s.lastStemAfter w.slot (evaluate s.cfg (w.results.map filledResult)) } := by
  simp only [State.closeMeasure, State.takePendingPress, State.discardWindow_gauge, State.issue_gauge]
  split <;> simp [State.takePress_gauge, State.issue_gauge]

theorem State.watchSound.closeMeasure (hs : s.watchSound) (w : MeasureWindow) : (s.closeMeasure w).watchSound :=
  hs.of_same (by rw [State.closeMeasure_gauge]; split <;> rfl) (by rw [State.closeMeasure_gauge]; split <;> rfl)

theorem State.watchSound.writeResult (hs : s.watchSound) (position : Nat) (r : ScanResult) :
    (s.writeResult position r).watchSound := by
  have hnoted := hs.noteResult r
  unfold State.writeResult
  dsimp only
  split
  · exact hnoted
  · have hwritten (w : MeasureWindow) :
        ({ s.noteResult r with gauge := { (s.noteResult r).gauge with window := some w } } : State).watchSound :=
      hnoted.of_same rfl rfl
    unfold State.closeIfFull
    split
    · exact hwritten _
    · exact watchSound_ite (fun _ => (hwritten _).closeMeasure _) fun _ => hwritten _

theorem State.watchSound.takeScan (hs : s.watchSound) (ready : Bool) (w : MeasureWindow) :
    (s.takeScan ready w).watchSound := by
  have hadvanced : (s.advanceScan w).watchSound := hs.of_same rfl rfl
  unfold State.takeScan
  split
  · exact hadvanced.of_same rfl rfl
  · exact hadvanced.writeResult _ _

theorem State.watchSound.endScan (hs : s.watchSound) (position : Option Nat) (r : ScanResult) :
    (s.endScan position r).watchSound := by
  have hidle : (s.setPort .idle).watchSound := hs.of_same rfl rfl
  cases position with
  | none => exact hidle
  | some i => exact hidle.writeResult i r

theorem State.watchSound.cutWindow (hs : s.watchSound) : s.cutWindow.watchSound := by
  unfold State.cutWindow
  split
  · exact hs
  · next w hw =>
    have hnoted : (s.noteCut w.results).watchSound :=
      foldl_keeps State.watchSound _ (fun t r ht => watchSound_ite (fun _ => ht.noteResult .lost) fun _ => ht) _ s hs
    have hported : ((s.noteCut w.results).setPort (orphanScan s.gauge.port)).watchSound := hnoted.of_same rfl rfl
    exact hported.closeMeasure w

theorem State.watchSound.pressLot (hs : s.watchSound) : s.pressLot.watchSound := by
  unfold State.pressLot
  split
  · exact hs.of_same rfl rfl
  · exact hs.of_same (by rw [State.takePress_gauge]) (by rw [State.takePress_gauge])

theorem State.watchSound.setFilter (hs : s.watchSound) (input : FilteredInput) (f : Filter) :
    (s.setFilter input f).watchSound := by
  cases input <;> exact hs.of_same rfl rfl

/-! ### Every command keeps the watch sound -/

/-- R172: loading starts the LOT filter, and nothing else of the Gauge Unit. -/
theorem State.watchSound.takeRecord (hs : s.watchSound) (role : Role) (cfg : StationConfig) :
    (s.takeRecord role cfg).watchSound := by
  have hloaded : (((((s.loadTracker role cfg).loadLineBus).loadRoleBlocks role).loadStatusPort).beginAnnouncing
      cfg).watchSound := by
    cases role <;> exact hs.of_same rfl rfl
  exact hloaded.of_gauge (by simp [State.takeRecord])

theorem State.watchSound.endRead (hs : s.watchSound) (bytes : List Byte) : (s.endRead bytes).watchSound := by
  unfold State.endRead
  split
  case h_1 => exact watchSound_ite (fun _ => hs.takeRecord _ _) fun _ => hs.of_gauge rfl
  all_goals exact hs

/-- R66: the Gauge Unit's entry to HALTED empties the watch; the other blocks' leaves it. -/
theorem State.watchSound.takeHaltNotice (hs : s.watchSound) (block : Block) (held : Bool) :
    (s.takeHaltNotice block held).watchSound := by
  have ⟨_, _, hrun⟩ := hs
  cases block with
  | gaugeUnit => exact watchSound_ite (fun _ => watchSound_of_empty rfl hrun) fun _ => hs
  | lineBus | flightTable | claimEngine | cradleManager | releaseUnit | tiePort =>
    exact hs.of_gauge (by simp [State.takeHaltNotice])

theorem execRemovalRequest_watchSound (hs : s.watchSound) (body : FrameBody) :
    ∃ t, execRemovalRequest body s = .next t ∧ t.watchSound := by
  refine ⟨_, rfl, watchSound_ite (fun _ => ?_) fun _ => hs⟩
  split <;> next answer => exact hs.of_gauge (by simp [State.gauge_of_requestRemoval answer])

/-- R41, R59: the commands of other blocks leave watch and lost run, and each of the gauge's keeps them in their
bounds. -/
theorem exec_watchSound (c : Instr) (hs : s.watchSound) : ∃ t, exec c s = .next t ∧ t.watchSound := by
  have htaken (i : Instr) : (s.taken i).watchSound := hs
  cases c with
  -- the loader and the inputs
  | reset => exact ⟨_, rfl, State.watchSound_of_empty rfl (Nat.zero_le _)⟩
  | recordReadComplete bytes => exact ⟨_, rfl, watchSound_ite (fun _ => hs.endRead bytes) fun _ => hs⟩
  | haltNotice block held =>
    exact ⟨_, rfl, watchSound_ite (fun _ => (htaken _).takeHaltNotice block held) fun _ => hs⟩
  | filterInputAsserted input =>
    have hpin : (s.setPin input true).watchSound := hs
    exact ⟨_, rfl, hpin.setFilter input _⟩
  | filterInputReleased input =>
    have hpin : ((s.countGlitch input).setPin input false).watchSound := hs.of_gauge (by simp)
    exact ⟨_, rfl, hpin.setFilter input _⟩
  | memoryNoAcknowledge | retryWaitExpiry | announceTimerExpiry | modeNotice _ _ | helloOutcome _
  | filteredGateEdge => exact ⟨_, rfl, hs.of_gauge (by simp)⟩
  | cpQualification _ => exact ⟨_, rfl, hs.of_gauge (by split <;> simp [State.setFilter])⟩
  | resetRelease _ _ | stall | holdLevelChange _ => exact ⟨_, rfl, hs.of_gauge (by split <;> rfl)⟩
  -- the line and its queue
  | removalRequest body => exact execRemovalRequest_watchSound hs body
  | idleGapComplete | dominantLevelInWaitGap | contentionWindow | contentionLost | contentionDriveFailed | contentionWon
  | spoil | frameSent | frameHeard _ | frameDiscarded _ | stuckEntry | stuckExit | carrierNotice _ =>
    exact ⟨_, rfl, hs.of_gauge (by (repeat' split) <;> simp)⟩
  -- the gauge
  | gaugeCarrierArrival a =>
    have hworked := (htaken (.gaugeCarrierArrival a)).cutWindow.workWatch a.slotHere
    exact ⟨_, rfl, watchSound_ite (fun _ => hworked.of_same rfl rfl) fun _ =>
      watchSound_ite (fun _ => hs) fun _ => hs⟩
  | scanDue _ =>
    refine ⟨_, rfl, watchSound_ite (fun _ => ?_) fun _ => hs⟩
    split
    · exact hs
    · exact watchSound_ite (fun _ => hs.takeScan _ _) fun _ => hs
  | srdyAsserted =>
    refine ⟨_, rfl, watchSound_ite (fun _ => ?_) fun _ => hs⟩
    split
    · exact hs
    · exact hs.of_same rfl rfl
  | scanRecordComplete _ | responseLimitExpiry =>
    refine ⟨_, rfl, watchSound_ite (fun _ => ?_) fun _ => hs⟩
    split
    · exact hs
    · exact hs.endScan _ _
  | lotPress =>
    have hheld : (s.setLotFilter .held).watchSound := hs.of_same rfl rfl
    exact ⟨_, rfl, watchSound_ite (fun _ => watchSound_ite (fun _ => hheld.pressLot) fun _ => hheld) fun _ => hs⟩
  | gaugeStemHeard slot cls =>
    exact ⟨_, rfl, watchSound_ite (fun _ => ((htaken _).unwatch slot).watchFresh (State.unwatch_not_watched slot) cls)
      fun _ => hs⟩
  | gaugeClaimHeard slot => exact ⟨_, rfl, watchSound_ite (fun _ => (htaken _).unwatch slot) fun _ => hs⟩
  | gaugeYieldHeard slot => exact ⟨_, rfl, watchSound_ite (fun _ => (htaken _).watchYield slot) fun _ => hs⟩
  | stemOutcome _ _ | lotOutcome _ _ _ => exact ⟨_, rfl, hs.of_gauge (by simp)⟩
  -- the flight table and the claim engine
  | flightTableStem _ _ _ | flightTableClaim _ _ _ | flightTableYield _ _ _ | flightTableLot _ _
  | flightTableCarrierArrival _ | clearNoticeFlightTable _ | claimOutcome _ _ | claimEngineCarrierArrival _
  | passRequest | holdAssertion | holdRelease | yieldRequest _ _ | yieldOutcome _ _ _ =>
    exact ⟨_, rfl, hs.of_gauge (by (repeat' split) <;> simp)⟩
  -- the cradles, the release unit, the tie port and the status port
  | win _ | returnCount _ | miss _ | place _ | cradleCarrierArrival _ | closeLot _ | clear _
  | clearNoticeRelease _ | tieResult _ _ | uncertainMark _ | pulseEndExpiry | holdNoticeTiePort _ | queueNotice
  | recordShifted | ackLimitExpiry | tieLimitExpiry | statusWordComplete _ | snapshot | sselRelease
  | lampFlashToggle => exact ⟨_, rfl, hs.of_gauge (by simp)⟩
  | ackPress => exact ⟨_, rfl, watchSound_ite (fun _ => hs) fun _ => hs⟩
  | releaseHandover _ _ _ | releaseCarrierStep _ | flapSettleExpiry | delayExpiry | confirmationWindowExpiry | tackEdge
  | tdoneEdge => exact ⟨_, rfl, hs.of_gauge (by (repeat' split) <;> simp)⟩
  | holdNoticeCradle _ | holdNoticeReleaseUnit _ =>
    exact ⟨_, rfl, hs.of_gauge (by dsimp only; (repeat' split) <;> simp)⟩

/-- Settles O35: an entry joins only a watch with room and none for its slot, and the lost run counts to its limit. -/
theorem issueWatchStaysBounded : Obligations.IssueWatchStaysBounded := by
  refine keptByEveryStep_of_exec_of_tick (fun s p hs => hs) (fun c s t hs hexec => ?_)
    fun s hs => hs.of_same (t := s.tick) rfl rfl
  obtain ⟨u, hu, hsound⟩ := exec_watchSound c hs
  cases hexec.symm.trans hu
  exact hsound

end Sys2Proof.Machine
end


section
namespace Sys2Proof.Machine

/-! ### The evaluation of a window (R47 to R52) -/

theorem insertByKeyFirst_pairwise {α : Type} (key : α → Nat) (x : α) {l : List α}
    (h : l.Pairwise (fun y z => key y ≤ key z)) :
    (sortByKey.insertByKeyFirst key x l).Pairwise (fun y z => key y ≤ key z) := by
  induction l with
  | nil => exact List.pairwise_singleton _ _
  | cons y rest ih =>
    obtain ⟨hy, hrest⟩ := List.pairwise_cons.mp h
    unfold sortByKey.insertByKeyFirst
    split
    case isTrue hle =>
      refine List.pairwise_cons.mpr ⟨fun z hz => ?_, h⟩
      rcases List.mem_cons.mp hz with rfl | hz
      · exact hle
      · exact hle.trans (hy z hz)
    case isFalse hlt =>
      refine List.pairwise_cons.mpr ⟨fun z hz => ?_, ih hrest⟩
      rcases List.mem_cons.mp ((insertByKeyFirst_perm key x rest).subset hz) with rfl | hz
      · exact (Nat.lt_of_not_le hlt).le
      · exact hy z hz

/-- A list sorted by a key stands in the key's ascending order. -/
theorem sortByKey_pairwise {α : Type} (key : α → Nat) (l : List α) :
    (sortByKey key l).Pairwise (fun y z => key y ≤ key z) := by
  induction l with
  | nil => exact .nil
  | cons x rest ih => exact insertByKeyFirst_pairwise key x ih

/-- R49: the valid scans' beam indices have one ascending order. -/
theorem sortedBeams_eq {results : List ScanResult} {beams : List Nat} (hsorted : beams.Pairwise (fun x y => x ≤ y))
    (hperm : beams.Perm (results.filterMap validBeam)) : sortedBeams results = beams := by
  have hascending : (sortedBeams results).Pairwise (fun x y => x ≤ y) := sortByKey_pairwise id _
  exact ((sortByKey_perm id _).trans hperm.symm).eq_of_pairwise' hascending hsorted

theorem all_clear_iff {results : List ScanResult} :
    results.all (fun r => r == .clear) = true ↔ ∀ r ∈ results, r = .clear := by
  simp

/-- R48 to R52: what a window that is no empty carrier comes to, by its sorted beams. -/
theorem evaluate_of_not_clear {results : List ScanResult} (cfg : StationConfig)
    (h : ¬ ∀ r ∈ results, r = .clear) : evaluate cfg results =
      if (sortedBeams results).length < cfg.validMinimum then .stem 0 0 .unmeasured
      else if cfg.spreadLimit < spread (sortedBeams results) then
        .stem 0 (stemLength cfg (lowerMedian (sortedBeams results))) .unsteady
      else if classOf cfg.classBounds (stemLength cfg (lowerMedian (sortedBeams results))) = 0 then
        .stem 0 (stemLength cfg (lowerMedian (sortedBeams results))) .short
      else .stem (classOf cfg.classBounds (stemLength cfg (lowerMedian (sortedBeams results))))
        (stemLength cfg (lowerMedian (sortedBeams results))) .none :=
  if_neg (mt all_clear_iff.mp h)

/-- R47: the empty carrier, and no other window. -/
theorem evaluate_eq_empty_iff (cfg : StationConfig) (results : List ScanResult) :
    evaluate cfg results = .empty ↔ ∀ r ∈ results, r = .clear := by
  by_cases h : ∀ r ∈ results, r = .clear
  · exact iff_of_true (if_pos (all_clear_iff.mpr h)) h
  · refine iff_of_false ?_ h
    rw [evaluate_of_not_clear cfg h]
    split_ifs <;> simp

/-- R52: no bound reached. -/
theorem classOf_eq_zero {bounds : List Nat} {length : Nat} (h : ∀ b ∈ bounds, length < b) :
    classOf bounds length = 0 := by
  simpa [classOf, List.countP_eq_zero] using h

/-- R52: the bounds reached number the class. -/
theorem classOf_append {lower upper : List Nat} {length : Nat} (hlower : ∀ b ∈ lower, b ≤ length)
    (hupper : ∀ b ∈ upper, length < b) : classOf (lower ++ upper) length = lower.length := by
  have hreached : lower.countP (fun b => decide (b ≤ length)) = lower.length := by
    simpa [List.countP_eq_length] using hlower
  have hnot : upper.countP (fun b => decide (b ≤ length)) = 0 := classOf_eq_zero hupper
  rw [classOf, List.countP_append, hreached, hnot, Nat.add_zero]

/-- Settles O31: the first rule that applies, on the one ascending order of the valid beams. -/
theorem windowIsEvaluatedByTheRules : Obligations.WindowIsEvaluatedByTheRules := by
  intro cfg results
  refine ⟨evaluate_eq_empty_iff cfg results, fun beams hsorted hperm hnot => ?_⟩
  have heval := evaluate_of_not_clear cfg hnot
  rw [sortedBeams_eq hsorted hperm] at heval
  refine ⟨fun hfew => by rw [heval, if_pos hfew], fun length henough hlength => ?_⟩
  have hmeasured : stemLength cfg (lowerMedian beams) = length := hlength.symm
  rw [hmeasured, if_neg henough.not_gt] at heval
  refine ⟨fun hwide => by rw [heval, spread, if_pos hwide], fun hsteady _ => ?_⟩
  rw [spread, if_neg hsteady.not_gt] at heval
  refine ⟨fun hshort => by rw [heval, if_pos (classOf_eq_zero hshort)],
    fun lower upper hbounds hne hlower hupper => ?_⟩
  have hclass : classOf cfg.classBounds length = lower.length := by rw [hbounds, classOf_append hlower hupper]
  rw [heval, hclass, if_neg (mt List.length_eq_zero_iff.mp hne)]

end Sys2Proof.Machine
end

section
namespace Sys2Proof.Machine

variable {s t : State}

/-! ### Outcomes at their owners (R54, R58, R109, R173) -/

/-- A LOT as it stands in the queue at its joining. -/
theorem newQueued_lot (cfg : StationConfig) (id lotNo : Nat) (last : Slot) :
    newQueued cfg (plainFrame id (.lot lotNo last)) = ⟨⟨16384 + id, .lot lotNo last⟩, none, 0, false, none⟩ := by
  have hvalue : contentionValue 2 0 id = 16384 + id := by rw [contentionValue]
  rw [newQueued, plainFrame, kindCode, hvalue, deadlineOf]

theorem exec_stemOutcome (h : s.gaugeLoaded) (slot : Slot) (o : FrameOutcome) :
    exec (.stemOutcome slot o) s = .next (if o = .sent then (s.taken (.stemOutcome slot o)).bump .stemsSent
      else s.taken (.stemOutcome slot o)) :=
  congrArg Host.Outcome.next (if_congr (and_iff_right h) rfl rfl)

theorem exec_yieldOutcome (h : s.dropLoaded) (slot : Slot) (reason : YieldReason) (o : FrameOutcome) :
    exec (.yieldOutcome slot reason o) s = .next (if o = .sent then
      (s.taken (.yieldOutcome slot reason o)).bump .yieldsSent else s.taken (.yieldOutcome slot reason o)) :=
  congrArg Host.Outcome.next (if_congr (and_iff_right h) rfl rfl)

/-- R58: outside ACTIVE, and after any end but a spoil, a LOT is not offered again. -/
theorem exec_lotOutcome_rest {lotNo : Nat} {last : Slot} {o : FrameOutcome}
    (h : o ≠ .spoiled ∨ s.loader.mode ≠ .active) :
    exec (.lotOutcome lotNo last o) s = .next (s.taken (.lotOutcome lotNo last o)) :=
  congrArg Host.Outcome.next (if_neg fun ⟨⟨_, hm⟩, ho⟩ => h.elim (absurd ho) (absurd hm))

theorem exec_lotOutcome_spoiled (h : s.gaugeActive) (lotNo : Nat) (last : Slot) :
    exec (.lotOutcome lotNo last .spoiled) s = .next ((s.taken (.lotOutcome lotNo last .spoiled)).offered
      (plainFrame s.stationId (.lot lotNo last))) :=
  congrArg Host.Outcome.next (if_pos ⟨h, rfl⟩)

/-- Settles O28: each owner's guard, and the answer of an offer with room for the LOT offered again. -/
theorem outcomesReachTheirOwners : Obligations.OutcomesReachTheirOwners := by
  refine ⟨fun s slot o h => exec_stemOutcome h slot o, fun s slot r o h => exec_yieldOutcome h slot r o,
    fun s o => rfl, fun s lotNo last o hrole => ⟨exec_lotOutcome_rest, ?_⟩⟩
  rintro rfl hm hroom
  have haccepted : (s.taken (.lotOutcome lotNo last .spoiled)).offersAccepted := .inr hm
  refine ⟨_, exec_lotOutcome_spoiled ⟨hrole, hm⟩ lotNo last, ?_⟩
  rw [State.offered_joined haccepted rfl hroom, ← newQueued_lot s.cfg]
  exact ⟨insertByValue_perm _ _, rfl⟩

end Sys2Proof.Machine
end

section
namespace Sys2Proof.Machine

variable {s t : State}

/-! ### Heard frames at the issue watch (R60 to R63) -/

theorem exec_gaugeStemHeard (h : s.gaugeActive) (slot : Slot) (cls : Nat) : exec (.gaugeStemHeard slot cls) s
    = .next (((s.taken (.gaugeStemHeard slot cls)).unwatch slot).watchFresh slot cls) :=
  congrArg Host.Outcome.next (if_pos h)

theorem exec_gaugeClaimHeard (h : s.gaugeActive) (slot : Slot) :
    exec (.gaugeClaimHeard slot) s = .next ((s.taken (.gaugeClaimHeard slot)).unwatch slot) :=
  congrArg Host.Outcome.next (if_pos h)

theorem exec_gaugeYieldHeard (h : s.gaugeActive) (slot : Slot) :
    exec (.gaugeYieldHeard slot) s = .next ((s.taken (.gaugeYieldHeard slot)).watchYield slot) :=
  congrArg Host.Outcome.next (if_pos h)

/-- R60: the horizon decides between joining and running out, once the watch has room. -/
theorem State.watchFresh_joins {slot : Slot} (hroom : s.gauge.watch.length < 128)
    (h : s.passed slot < s.cfg.runOutHorizon) (cls : Nat) : s.watchFresh slot cls = s.joinWatch slot (some cls) := by
  rw [State.watchFresh, watchCapacity, if_neg hroom.not_ge, if_pos h]

theorem State.watchFresh_runsOut {slot : Slot} (hroom : s.gauge.watch.length < 128)
    (h : s.cfg.runOutHorizon ≤ s.passed slot) (cls : Nat) : s.watchFresh slot cls = s.runOut (some cls) := by
  rw [State.watchFresh, watchCapacity, if_neg hroom.not_ge, if_neg h.not_gt]

theorem State.watchFresh_overflows (hfull : 128 ≤ s.gauge.watch.length) (slot : Slot) (cls : Nat) :
    s.watchFresh slot cls = s.bump .watchOverflow := by
  rw [State.watchFresh, watchCapacity, if_pos hfull]

/-- R63: a YIELD for a slot watched, in UNSYNCED, or past the horizon has no effect. -/
theorem State.watchYield_rests {slot : Slot} (h : s.watched slot = true ∨ s.tracker.state = .unsynced
    ∨ s.cfg.runOutHorizon ≤ s.passed slot) : s.watchYield slot = s := by
  rcases h with h | h | h <;> simp [State.watchYield, h]

/-- R63: any other YIELD finds the watch full, or an entry of unknown class joins. -/
theorem State.watchYield_new {slot : Slot} (hnew : s.watched slot ≠ true) (hsynced : s.tracker.state ≠ .unsynced)
    (h : s.passed slot < s.cfg.runOutHorizon) : s.watchYield slot
      = if 128 ≤ s.gauge.watch.length then s.bump .watchOverflow else s.joinWatch slot none := by
  rw [State.watchYield, if_neg hnew, if_neg hsynced, if_neg h.not_ge, watchCapacity]

/-- The entries for other slots are the whole watch just when none is for this one. -/
theorem State.not_watched_iff {slot : Slot} :
    s.watched slot ≠ true ↔ s.gauge.watch.filter (fun e => e.slot != slot) = s.gauge.watch := by
  simp [State.watched, List.filter_eq_self]

/-- Settles O34: the older entry for the slot leaves before a STEM is judged; a YIELD only adds. -/
theorem watchTakesHeardFrames : Obligations.WatchTakesHeardFrames := by
  rintro s slot cls others passed hrole hm rfl rfl
  have ha : s.gaugeActive := ⟨hrole, hm⟩
  refine ⟨exec_gaugeClaimHeard ha slot, fun hroom hpassed => ?_, fun hroom hpassed => ?_, fun hfull => ?_,
    fun hrest => ?_, fun hsame hsynced hpassed => ?_⟩
  · rw [exec_gaugeStemHeard ha, State.watchFresh_joins (s := (s.taken _).unwatch slot) hroom hpassed]
    rfl
  · rw [exec_gaugeStemHeard ha, State.watchFresh_runsOut (s := (s.taken _).unwatch slot) hroom hpassed]
    rfl
  · rw [exec_gaugeStemHeard ha, State.watchFresh_overflows (s := (s.taken _).unwatch slot) hfull]
    rfl
  · have hwatched (h : s.gauge.watch.filter (fun e => e.slot != slot) ≠ s.gauge.watch) : s.watched slot = true :=
      not_not.mp (mt State.not_watched_iff.mp h)
    rw [exec_gaugeYieldHeard ha, State.watchYield_rests (s := s.taken _) (hrest.imp_left hwatched)]
    rfl
  · have hnew : (s.taken (.gaugeYieldHeard slot)).watched slot ≠ true := State.not_watched_iff.mpr hsame
    rw [exec_gaugeYieldHeard ha, State.watchYield_new hnew hsynced hpassed, hsame, State.taken_gauge]
    exact ⟨fun hroom => by rw [if_neg hroom.not_ge]; rfl, fun hfull => by rw [if_pos hfull]; rfl⟩

end Sys2Proof.Machine
end


section
namespace Sys2Proof.Machine

variable {s t u : State}

/-! ### Offers one after the other (R31) -/

/-- R31: the answers of an offer to a frame that is no CLAIM. -/
theorem State.offered_taken (h : s.offersAccepted) {f : Frame} (hf : claimSlot f.body = none) :
    OfferTaken (newQueued s.cfg f) s.queueView (s.offered f).queueView := by
  refine ⟨fun hroom => ?_, fun hfull hstay => ?_, fun before q after slot hfull hq hc hslot hstay hothers => ?_⟩
  · rw [State.offered_joined h hf hroom]
    exact ⟨insertByValue_perm _ _, rfl, rfl⟩
  · rw [State.offered_dropped h hf hfull (lastEvictable_eq_none hstay)]
    exact ⟨rfl, rfl, s.bump_counter_self .framesDropped⟩
  · have hqueue : s.bus.queue = before ++ q :: after := hq
    have hlast : lastEvictable s.bus.queue = some slot := by rw [hqueue, lastEvictable_eq_some hc hslot hstay]
    have hleft : s.bus.queue.filter (fun x => !isClaimFor slot x.frame.body) = before ++ after := by
      rw [hqueue, filter_not_claimFor hslot (fun x hx => hothers x (List.mem_append_left _ hx))
        fun x hx => hothers x (List.mem_append_right _ hx)]
    rw [State.offered_evicts h hf hfull hlast]
    refine ⟨?_, rfl, (s.dequeueClaim slot).bump_counter_self .framesDropped⟩
    rw [← hleft]
    exact insertByValue_perm _ _

theorem offersTaken_singleton {new : QueuedFrame} {x y : QueueView} : OffersTaken [new] x y ↔ OfferTaken new x y := by
  simp [OffersTaken]

theorem OffersTaken.append {first second : List QueuedFrame} {x y z : QueueView} (hxy : OffersTaken first x y)
    (hyz : OffersTaken second y z) : OffersTaken (first ++ second) x z := by
  induction first generalizing x with
  | nil =>
    cases hxy
    exact hyz
  | cons new rest ih =>
    obtain ⟨m, hnew, hrest⟩ := hxy
    exact ⟨m, hnew, ih hrest⟩

/-- An offer counts nothing but a frame dropped. -/
theorem State.offered_counter (f : Frame) {n : CounterName} (hn : n ≠ .framesDropped) :
    (s.offered f).counter n = s.counter n := by
  unfold State.offered
  rcases s.offer_cases f with h | ⟨-, -, h, -⟩ | ⟨slot, -, -, -, -, h⟩ | ⟨-, -, -, -, h⟩ <;> rw [h]
  · rfl
  · exact State.bump_counter_other s hn
  · exact State.bump_counter_other s hn

/-! ### What sending frames leaves alone -/

/-- A step of the Gauge Unit that reaches other blocks by offers and counts only. -/
def State.SendsOnly (s t : State) : Prop :=
  t = { s with
    gauge := t.gauge
    bus := { s.bus with queue := t.bus.queue }
    status := { s.status with counters := t.status.counters }
    handed := t.handed }

namespace State.SendsOnly

theorem trans (hst : s.SendsOnly t) (htu : t.SendsOnly u) : s.SendsOnly u := by
  unfold State.SendsOnly at *
  rw [htu, hst]

theorem offered (f : Frame) : s.SendsOnly (s.offered f) := by
  unfold State.offered
  rcases s.offer_cases f with h | ⟨-, -, h, -⟩ | ⟨slot, -, -, -, -, h⟩ | ⟨-, -, -, -, h⟩ <;> rw [h] <;> rfl

theorem bumpSome (n : Option CounterName) : s.SendsOnly (s.bumpSome n) := by
  cases n <;> rfl

theorem eq (h : s.SendsOnly t) :
    t = { s with gauge := t.gauge, bus := t.bus, status := t.status, handed := t.handed } := by
  rw [h]

theorem loader (h : s.SendsOnly t) : t.loader = s.loader := by rw [h]

theorem tracker (h : s.SendsOnly t) : t.tracker = s.tracker := by rw [h]

theorem bus (h : s.SendsOnly t) : t.bus = { s.bus with queue := t.bus.queue } := by rw [h]

theorem status (h : s.SendsOnly t) : t.status = { s.status with counters := t.status.counters } := by rw [h]

theorem cfg (h : s.SendsOnly t) : t.cfg = s.cfg := State.cfg_of_record_eq (by rw [h.loader])

theorem offersAccepted (h : s.SendsOnly t) : t.offersAccepted ↔ s.offersAccepted := by
  rw [State.offersAccepted, h.loader]

/-- An offer that follows steps which have neither joined a frame nor told an owner anything. -/
theorem offered_taken (h : s.SendsOnly t) (hview : t.queueView = s.queueView) (ha : s.offersAccepted) {f : Frame}
    (hf : claimSlot f.body = none) : OfferTaken (newQueued s.cfg f) s.queueView (t.offered f).queueView := by
  have htaken := State.offered_taken (h.offersAccepted.mpr ha) hf
  rwa [h.cfg, hview] at htaken

theorem flag (h : s.SendsOnly t) (f : FlagName) : t.flag f = s.flag f := by
  rw [State.flag, h.status]
  rfl

end State.SendsOnly

/-! ### The issue of a stem (R47, R53) -/

/-- The counter that the outcome of a window counts. -/
def State.issueCounter (s : State) : Evaluation → Option CounterName
  | .empty => some .empties
  | .stem _ _ reason => if s.pins.hold = true then some .heldStems else rejectCounter reason

theorem State.issueCounter_held (h : s.pins.hold = true) (cls length : Nat) (reason : RejectReason) :
    s.issueCounter (.stem cls length reason) = some .heldStems :=
  if_pos h

theorem State.issueCounter_sent (h : s.pins.hold ≠ true) (cls length : Nat) (reason : RejectReason) :
    s.issueCounter (.stem cls length reason) = rejectCounter reason :=
  if_neg h

theorem rejectCounter_mem {reason : RejectReason} {n : CounterName} (h : rejectCounter reason = some n) :
    n ∈ [CounterName.shortRejects, .unmeasuredRejects, .unsteadyRejects] := by
  cases reason <;> cases h <;> decide

theorem rejectCounter_injective : Function.Injective rejectCounter := by
  intro r reason h
  cases r <;> cases reason <;> simp [rejectCounter] at h ⊢

/-- The close of a window counts the counters named for it. -/
theorem State.issueCounter_mem {e : Evaluation} {n : CounterName} (h : s.issueCounter e = some n) :
    n ∈ windowCounters := by
  cases e with
  | empty =>
    cases h
    decide
  | stem cls length reason =>
    by_cases hold : s.pins.hold = true
    · rw [issueCounter_held hold] at h
      cases h
      decide
    · rw [issueCounter_sent hold] at h
      exact List.mem_of_mem_drop (i := 3) (rejectCounter_mem h)

theorem State.issueCounter_empties {e : Evaluation} : s.issueCounter e = some .empties ↔ e = .empty := by
  cases e with
  | empty => exact iff_of_true rfl rfl
  | stem cls length reason =>
    refine iff_of_false (fun h => ?_) (by simp)
    by_cases hold : s.pins.hold = true
    · rw [issueCounter_held hold] at h
      cases h
    · rw [issueCounter_sent hold] at h
      exact absurd (rejectCounter_mem h) (by decide)

theorem State.issueCounter_heldStems {e : Evaluation} :
    s.issueCounter e = some .heldStems ↔ e ≠ .empty ∧ s.pins.hold = true := by
  cases e with
  | empty => simp [State.issueCounter]
  | stem cls length reason =>
    by_cases hold : s.pins.hold = true
    · simp [issueCounter_held hold, hold]
    · refine iff_of_false (fun h => ?_) fun ⟨_, h⟩ => hold h
      rw [issueCounter_sent hold] at h
      exact absurd (rejectCounter_mem h) (by decide)

/-- R53: a reject is counted just when its stem is offered. -/
theorem State.issueCounter_reject {e : Evaluation} {reason : RejectReason} {n : CounterName}
    (hn : rejectCounter reason = some n) : s.issueCounter e = some n ↔ s.countedReject e = some reason := by
  have hmem := rejectCounter_mem hn
  cases e with
  | empty =>
    refine iff_of_false (fun h => ?_) (by simp [State.countedReject])
    cases h
    exact absurd hmem (by decide)
  | stem cls length r =>
    by_cases hold : s.pins.hold = true
    · rw [issueCounter_held hold, State.countedReject, if_pos hold]
      refine iff_of_false (fun h => ?_) (by simp)
      cases h
      exact absurd hmem (by decide)
    · rw [issueCounter_sent hold, State.countedReject, if_neg hold, ← hn, rejectCounter_injective.eq_iff,
        Option.some_inj]

theorem State.bumpSome_counter (counted : Option CounterName) (n : CounterName) : (s.bumpSome counted).counter n
    = if counted = some n then countUp (s.counter n) else s.counter n := by
  cases counted with
  | none => simp [State.bumpSome]
  | some m =>
    by_cases h : m = n
    · subst h
      simp [State.bumpSome]
    · rw [if_neg (by simpa using h)]
      exact State.bump_counter_other s (Ne.symm h)

/-- A STEM as it stands in the queue at its joining. -/
theorem newQueued_stem (cfg : StationConfig) (id : Nat) (slot : Slot) (cls length lotNo : Nat) (reason : RejectReason) :
    newQueued cfg (plainFrame id (.stem slot cls length lotNo reason))
      = ⟨⟨49152 + id, .stem slot cls length lotNo reason⟩, some cfg.stemLifetime, 0, false, none⟩ := by
  have hvalue : contentionValue 6 0 id = 49152 + id := by rw [contentionValue]
  rw [newQueued, plainFrame, kindCode, hvalue, deadlineOf]

/-- R53: with HOLD asserted a stem is counted held and not sent. -/
theorem State.issue_held (h : s.pins.hold = true) (slot : Slot) (cls length : Nat) (reason : RejectReason) :
    s.issue slot (.stem cls length reason)
      = ({ s with gauge := { s.gauge with lastStemSlot := some slot } } : State).bump .heldStems :=
  if_pos h

/-- R53: with HOLD released its reject is counted and it is offered. -/
theorem State.issue_sent (h : s.pins.hold ≠ true) (slot : Slot) (cls length : Nat) (reason : RejectReason) :
    s.issue slot (.stem cls length reason)
      = (({ s with gauge := { s.gauge with lastStemSlot := some slot } } : State).bumpSome
        (rejectCounter reason)).offered (plainFrame s.stationId (.stem slot cls length s.gauge.lotNumber reason)) :=
  if_neg h

theorem State.SendsOnly.issue (slot : Slot) (e : Evaluation) : s.SendsOnly (s.issue slot e) := by
  cases e with
  | empty => rfl
  | stem cls length reason =>
    by_cases h : s.pins.hold = true
    · rw [State.issue_held h]
      rfl
    · rw [State.issue_sent h]
      exact (SendsOnly.bumpSome (s := { s with gauge := { s.gauge with lastStemSlot := some slot } }) _).trans
        (SendsOnly.offered _)

theorem State.issue_counter (slot : Slot) (e : Evaluation) {n : CounterName} (hn : n ≠ .framesDropped) :
    (s.issue slot e).counter n = if s.issueCounter e = some n then countUp (s.counter n) else s.counter n := by
  cases e with
  | empty => exact State.bumpSome_counter (some .empties) n
  | stem cls length reason =>
    by_cases h : s.pins.hold = true
    · rw [State.issue_held h, State.issueCounter, if_pos h]
      exact State.bumpSome_counter (s := { s with gauge := { s.gauge with lastStemSlot := some slot } })
        (some .heldStems) n
    · rw [State.issue_sent h, State.issueCounter, if_neg h, State.offered_counter _ hn]
      exact State.bumpSome_counter _ n

/-- The counters of the transmit queue are not those of a reject. -/
theorem State.bumpSome_rejectCounter_queueView (reason : RejectReason) :
    (s.bumpSome (rejectCounter reason)).queueView = s.queueView := by
  cases reason <;> rfl

theorem State.issue_taken (ha : s.offersAccepted) (slot : Slot) (e : Evaluation) :
    OffersTaken (s.stemOffer slot e) s.queueView (s.issue slot e).queueView := by
  cases e with
  | empty => rfl
  | stem cls length reason =>
    by_cases h : s.pins.hold = true
    · rw [State.issue_held h, State.stemOffer, if_pos h]
      rfl
    · have hsame : s.SendsOnly (({ s with gauge := { s.gauge with lastStemSlot := some slot } } : State).bumpSome
          (rejectCounter reason)) :=
        SendsOnly.trans (t := { s with gauge := { s.gauge with lastStemSlot := some slot } }) rfl (.bumpSome _)
      rw [State.issue_sent h, State.stemOffer, if_neg h, offersTaken_singleton, ← newQueued_stem s.cfg]
      exact hsame.offered_taken (State.bumpSome_rejectCounter_queueView reason) ha rfl

/-! ### A LOT press (R57) -/

theorem State.SendsOnly.takePress : s.SendsOnly s.takePress := by
  unfold State.takePress
  split
  · rfl
  · exact (SendsOnly.offered _).trans rfl

theorem State.takePress_counter {n : CounterName} (hn : n ≠ .framesDropped) : s.takePress.counter n = s.counter n := by
  unfold State.takePress
  split
  · rfl
  · exact State.offered_counter _ hn

/-- R57: the LOT that a press offers, or none while UNSYNCED with no stem. -/
theorem State.takePress_taken (ha : s.offersAccepted) :
    OffersTaken (s.lotOffer s.gauge.lastStemSlot) s.queueView s.takePress.queueView := by
  have hoffer (slot : Slot) : OffersTaken
      [⟨⟨16384 + s.stationId, .lot s.gauge.lotNumber slot⟩, none, 0, false, none⟩] s.queueView
      (s.offered (plainFrame s.stationId (.lot s.gauge.lotNumber slot))).queueView := by
    rw [offersTaken_singleton, ← newQueued_lot s.cfg]
    exact State.offered_taken ha rfl
  cases hlast : s.gauge.lastStemSlot with
  | some slot =>
    simp only [State.takePress, State.lotLastSlot, State.lotOffer, hlast]
    exact hoffer slot
  | none =>
    cases hstate : s.tracker.state with
    | unsynced => simp only [State.takePress, State.lotLastSlot, State.lotOffer, hlast, hstate]; rfl
    | tracking | stalled =>
      simp [State.takePress, State.lotLastSlot, State.lotOffer, hlast, hstate]
      exact hoffer _

/-! ### The close of a window (R44) -/

theorem State.stationId_of_loader (h : t.loader = s.loader) : t.stationId = s.stationId := by
  rw [State.stationId, State.stationId, h]

theorem State.lotOffer_congr (hloader : t.loader = s.loader) (htracker : t.tracker = s.tracker)
    (hlot : t.gauge.lotNumber = s.gauge.lotNumber) (last : Option Slot) : t.lotOffer last = s.lotOffer last := by
  unfold State.lotOffer
  rw [htracker, hlot, State.stationId_of_loader hloader]

theorem State.SendsOnly.takePendingPress : s.SendsOnly s.takePendingPress := by
  unfold State.takePendingPress
  split
  · exact .takePress
  · rfl

theorem State.takePendingPress_counter {n : CounterName} (hn : n ≠ .framesDropped) :
    s.takePendingPress.counter n = s.counter n := by
  unfold State.takePendingPress
  split
  · exact State.takePress_counter hn
  · rfl

theorem State.takePendingPress_taken (ha : s.offersAccepted) :
    OffersTaken (if s.gauge.pendingPress = true then s.lotOffer s.gauge.lastStemSlot else []) s.queueView
      s.takePendingPress.queueView := by
  unfold State.takePendingPress
  split
  · exact State.takePress_taken ha
  · rfl

theorem State.SendsOnly.closeMeasure (w : MeasureWindow) : s.SendsOnly (s.closeMeasure w) :=
  ((SendsOnly.issue _ _).trans (u := (s.issue _ _).discardWindow) rfl).trans .takePendingPress

/-- R44, R53, R57: the STEM goes before the LOT of a pending press. -/
theorem State.issue_press_taken (ha : s.offersAccepted) (slot : Slot) (e : Evaluation) :
    OffersTaken (s.windowOffers slot e) s.queueView (s.issue slot e).discardWindow.takePendingPress.queueView := by
  have hissued := SendsOnly.issue (s := s) slot e
  have hpress := State.takePendingPress_taken (s := (s.issue slot e).discardWindow) (hissued.offersAccepted.mpr ha)
  have hlot (last : Option Slot) : (s.issue slot e).discardWindow.lotOffer last = s.lotOffer last :=
    State.lotOffer_congr hissued.loader hissued.tracker (by simp [State.issue_gauge]) last
  rw [hlot, State.discardWindow_gauge, State.issue_gauge] at hpress
  exact (State.issue_taken ha slot e).append hpress

theorem State.closeMeasure_taken (ha : s.offersAccepted) (w : MeasureWindow) :
    OffersTaken (s.windowOffers w.slot (evaluate s.cfg (w.results.map filledResult))) s.queueView
      (s.closeMeasure w).queueView :=
  State.issue_press_taken ha w.slot _

theorem State.closeMeasure_counter (w : MeasureWindow) {n : CounterName} (hn : n ≠ .framesDropped) :
    (s.closeMeasure w).counter n
      = if s.issueCounter (evaluate s.cfg (w.results.map filledResult)) = some n then countUp (s.counter n)
        else s.counter n :=
  (State.takePendingPress_counter hn).trans (State.issue_counter _ _ hn)

/-- R47, R53, R57: the lot fields and the counters at the close of a window. -/
theorem State.closeMeasure_windowClosed (w : MeasureWindow) :
    s.windowClosed w.slot (evaluate s.cfg (w.results.map filledResult)) (s.closeMeasure w) := by
  refine ⟨?_, ?_, ?_, ?_, ?_, ?_, ?_, ?_⟩
  · rw [State.closeMeasure_gauge]
    split
    · rfl
    · next h => simpa using h
  · rw [State.closeMeasure_gauge]
    split <;> rfl
  · rw [State.closeMeasure_gauge]
    split <;> rfl
  · rw [State.closeMeasure_counter w (by simp)]
    exact if_congr State.issueCounter_empties rfl rfl
  · rw [State.closeMeasure_counter w (by simp)]
    exact if_congr State.issueCounter_heldStems rfl rfl
  · rw [State.closeMeasure_counter w (by simp)]
    exact if_congr (State.issueCounter_reject rfl) rfl rfl
  · rw [State.closeMeasure_counter w (by simp)]
    exact if_congr (State.issueCounter_reject rfl) rfl rfl
  · rw [State.closeMeasure_counter w (by simp)]
    exact if_congr (State.issueCounter_reject rfl) rfl rfl

theorem State.closeMeasure_counter_other (w : MeasureWindow) {n : CounterName} (hn : n ∉ windowCounters) :
    (s.closeMeasure w).counter n = s.counter n := by
  have hdropped : n ≠ .framesDropped := fun h => hn (h ▸ List.mem_cons_self)
  rw [State.closeMeasure_counter w hdropped, if_neg (mt State.issueCounter_mem hn)]

end Sys2Proof.Machine
end


section
namespace Sys2Proof.Machine

variable {s t u : State}

/-! ### The LOT input (R56, R57) -/

theorem exec_lotPress_active (hl : s.gaugeLoaded) (hedge : s.gauge.lotFilter.admitsEdge = true)
    (hm : s.loader.mode = .active) : exec .lotPress s = .next (s.setLotFilter .held).pressLot :=
  congrArg Host.Outcome.next ((if_pos ⟨hl, hedge⟩).trans (if_pos hm))

theorem exec_lotPress_discarded (hl : s.gaugeLoaded) (hedge : s.gauge.lotFilter.admitsEdge = true)
    (hm : s.loader.mode ≠ .active) : exec .lotPress s = .next (s.setLotFilter .held) :=
  congrArg Host.Outcome.next ((if_pos ⟨hl, hedge⟩).trans (if_neg hm))

/-- R57: a press waits for an open window. -/
theorem State.pressLot_waits {w : MeasureWindow} (h : s.gauge.window = some w) :
    s.pressLot = { s with gauge := { s.gauge with pendingPress := true } } := by
  simp [State.pressLot, h]

theorem State.pressLot_taken (h : s.gauge.window = none) : s.pressLot = s.takePress := by
  simp [State.pressLot, h]

/-- R57: with no stem to name, in UNSYNCED, no LOT is sent. -/
theorem State.takePress_unsynced (hlast : s.gauge.lastStemSlot = none) (h : s.tracker.state = .unsynced) :
    s.takePress = s.advanceLot := by
  simp [State.takePress, State.lotLastSlot, hlast, h]

/-- R57: the LOT names the last stem slot, or else slot here. -/
theorem State.lotOffer_names {lastStem : Option Slot} {last : Slot} (h : lastStem = some last
    ∨ (lastStem = none ∧ s.tracker.state ≠ .unsynced ∧ s.tracker.slotHere = some last)) :
    s.lotOffer lastStem = [⟨⟨16384 + s.stationId, .lot s.gauge.lotNumber last⟩, none, 0, false, none⟩] := by
  rcases h with rfl | ⟨rfl, hsynced, hhere⟩
  · rfl
  · cases hstate : s.tracker.state with
    | unsynced => exact absurd hstate hsynced
    | tracking | stalled => simp [State.lotOffer, hstate, hhere]

/-- Settles O33: the mode, the window and the tracker decide what a press does; its LOT is one offer. -/
theorem lotPressEndsTheLot : Obligations.LotPressEndsTheLot := by
  intro s hl hedge
  refine ⟨exec_lotPress_discarded hl hedge, fun hm hopen => ?_, fun hm hclosed hlast hunsynced => ?_,
    fun last hm hclosed hnamed => ?_⟩
  · obtain ⟨w, hw⟩ := Option.ne_none_iff_exists'.mp hopen
    rw [exec_lotPress_active hl hedge hm, State.pressLot_waits (s := s.setLotFilter .held) hw]
    rfl
  · rw [exec_lotPress_active hl hedge hm, State.pressLot_taken (s := s.setLotFilter .held) hclosed,
      State.takePress_unsynced (s := s.setLotFilter .held) hlast hunsynced]
    simp only [State.advanceLot, State.setLotFilter, hlast]
  · have ha : (s.setLotFilter .held).offersAccepted := .inr hm
    have hexec := exec_lotPress_active hl hedge hm
    rw [State.pressLot_taken (s := s.setLotFilter .held) hclosed] at hexec
    have htaken := State.takePress_taken ha
    rw [State.lotOffer_names (s := s.setLotFilter .held) (lastStem := (s.setLotFilter .held).gauge.lastStemSlot)
      hnamed] at htaken
    have hsent := State.SendsOnly.takePress (s := s.setLotFilter .held)
    have hframe := hsent.eq
    rw [State.takePress_gauge] at hframe
    exact ⟨_, _, hexec, htaken, hsent.bus, rfl, rfl, fun n => State.takePress_counter, hsent.status, hframe⟩

end Sys2Proof.Machine
end


section
namespace Sys2Proof.Machine

variable {s t u v : State}

/-! ### Scan results counted (R39 to R41) -/

/-- What the counting of scan results leaves: the lost run, the scans lost, SCAN_FAULT. -/
structure State.Notes (s : State) (lost run : Nat) (fault : Bool) (t : State) : Prop where
  eq : t = { s with
    gauge := { s.gauge with lostRun := run }
    status := { s.status with flags := t.status.flags, counters := t.status.counters } }
  scansLost : t.counter .scansLost = countUp^[lost] (s.counter .scansLost)
  counter : ∀ n, n ≠ .scansLost → t.counter n = s.counter n
  scanFault : t.flag .scanFault = (s.flag .scanFault || fault)
  flag : ∀ f, f ≠ .scanFault → t.flag f = s.flag f

theorem State.Notes.refl (s : State) : s.Notes 0 s.gauge.lostRun false s where
  eq := rfl
  scansLost := rfl
  counter _ _ := rfl
  scanFault := (Bool.or_false _).symm
  flag _ _ := rfl

theorem State.Notes.trans {lost lost' run run' : Nat} {fault fault' : Bool} (hst : s.Notes lost run fault t)
    (htu : t.Notes lost' run' fault' u) : s.Notes (lost' + lost) run' (fault || fault') u where
  eq := by rw [htu.eq, hst.eq]
  scansLost := by rw [htu.scansLost, hst.scansLost, Function.iterate_add_apply]
  counter n hn := (htu.counter n hn).trans (hst.counter n hn)
  scanFault := by rw [htu.scanFault, hst.scanFault, Bool.or_assoc]
  flag f hf := (htu.flag f hf).trans (hst.flag f hf)

theorem State.Notes.gauge {lost run : Nat} {fault : Bool} (h : s.Notes lost run fault t) :
    t.gauge = { s.gauge with lostRun := run } := by
  rw [h.eq]

/-- R41: a lost scan lengthens the run to 8 at most, and SCAN_FAULT is set when it gets there. -/
theorem State.noteResult_lost : s.Notes 1 (min (s.gauge.lostRun + 1) 8) (decide (7 ≤ s.gauge.lostRun))
    (s.noteResult .lost) := by
  have hlimit : min (s.gauge.lostRun + 1) 8 = 8 ↔ 7 ≤ s.gauge.lostRun := by omega
  unfold State.noteResult
  simp only [if_true, lostLimit, hlimit]
  have hself (g : GaugeUnit) : (({ s with gauge := g } : State).bump .scansLost).counter .scansLost
      = countUp (s.counter .scansLost) := State.bump_counter_self _ _
  have hother (g : GaugeUnit) (n : CounterName) (hn : n ≠ .scansLost) :
      (({ s with gauge := g } : State).bump .scansLost).counter n = s.counter n :=
    State.bump_counter_other { s with gauge := g } hn
  split_ifs with h
  · exact ⟨rfl, hself _, hother _, by rw [State.raise_flag_self, decide_eq_true h, Bool.or_true],
      fun f hf => State.raise_flag_other _ hf⟩
  · exact ⟨rfl, hself _, hother _, by rw [decide_eq_false h, Bool.or_false]; rfl, fun _ _ => rfl⟩

/-- R41: any other result ends the run. -/
theorem State.noteResult_other {r : ScanResult} (hr : r ≠ .lost) : s.Notes 0 0 false (s.noteResult r) := by
  rw [State.noteResult, if_neg hr]
  exact ⟨rfl, rfl, fun _ _ => rfl, (Bool.or_false _).symm, fun _ _ => rfl⟩

theorem State.noteResult_notes (r : ScanResult) : s.Notes (if r = .lost then 1 else 0)
    (if r = .lost then min (s.gauge.lostRun + 1) 8 else 0) (decide (r = .lost ∧ 7 ≤ s.gauge.lostRun))
    (s.noteResult r) := by
  by_cases hr : r = .lost
  · subst hr
    simpa using State.noteResult_lost (s := s)
  · simpa [hr] using State.noteResult_other (s := s) hr

/-- R45: the empty positions of a cut window, each one more scan lost. -/
theorem State.noteCut_notes (results : List (Option ScanResult)) : s.Notes (results.countP Option.isNone)
    (if results.countP Option.isNone = 0 then s.gauge.lostRun
      else min (s.gauge.lostRun + results.countP Option.isNone) 8)
    (decide (results.countP Option.isNone ≠ 0 ∧ 8 ≤ s.gauge.lostRun + results.countP Option.isNone))
    (s.noteCut results) := by
  induction results generalizing s with
  | nil => exact State.Notes.refl s
  | cons r rest ih =>
    cases r with
    | some r => simpa [State.noteCut] using ih (s := s)
    | none =>
      have hrest := State.noteResult_lost.trans (ih (s := s.noteResult .lost))
      rw [State.noteResult_lost.gauge] at hrest
      have hcount : (none :: rest).countP Option.isNone = rest.countP Option.isNone + 1 := by simp
      have hrun : (if rest.countP Option.isNone = 0 then min (s.gauge.lostRun + 1) 8
            else min (min (s.gauge.lostRun + 1) 8 + rest.countP Option.isNone) 8)
          = if rest.countP Option.isNone + 1 = 0 then s.gauge.lostRun
            else min (s.gauge.lostRun + (rest.countP Option.isNone + 1)) 8 := by
        rw [if_neg (Nat.succ_ne_zero _)]
        split_ifs <;> omega
      have hfault : (decide (7 ≤ s.gauge.lostRun) || decide (rest.countP Option.isNone ≠ 0
            ∧ 8 ≤ min (s.gauge.lostRun + 1) 8 + rest.countP Option.isNone))
          = decide (rest.countP Option.isNone + 1 ≠ 0 ∧ 8 ≤ s.gauge.lostRun + (rest.countP Option.isNone + 1)) := by
        rw [← Bool.decide_or, decide_eq_decide]
        omega
      rw [hcount, ← hrun, ← hfault]
      exact hrest

/-! ### A result written to its position (R38, R43, R44) -/

/-- A result counted and written while the window stays open. -/
def State.written (s : State) (i : Nat) (r : ScanResult) (w : MeasureWindow) : State :=
  { s.noteResult r with gauge := { (s.noteResult r).gauge with
      window := some { w with results := w.results.set i (some r) } } }

theorem State.writeResult_eq {w : MeasureWindow} (hw : s.gauge.window = some w) (i : Nat) (r : ScanResult) :
    s.writeResult i r = if (w.results.set i (some r)).all Option.isSome = true then
      (s.written i r w).closeMeasure { w with results := w.results.set i (some r) } else s.written i r w := by
  have hnoted : (s.noteResult r).gauge.window = some w := by rw [(State.noteResult_notes r).gauge, ← hw]
  simp only [State.writeResult, hnoted]
  rfl

/-- With another position empty the window stays open. -/
theorem all_isSome_set_eq_false {results : List (Option ScanResult)} {i : Nat}
    (h : ∃ j, j ≠ i ∧ results[j]? = some none) (r : ScanResult) :
    (results.set i (some r)).all Option.isSome ≠ true := by
  obtain ⟨j, hj, hnone⟩ := h
  intro hall
  have hmem : (none : Option ScanResult) ∈ results.set i (some r) :=
    List.mem_of_getElem? (i := j) (by rw [List.getElem?_set_ne hj.symm, hnone])
  exact absurd (List.all_eq_true.mp hall none hmem) (by simp)

/-- The end of a scan that leaves its window open: the result in its position, the port, the lost run and the counts of
R39 to R41. -/
def State.scanEnded (s : State) (port : ScanPort) (window : MeasureWindow) (r : ScanResult) (t : State) : Prop :=
  t.gauge = { s.gauge with
    port := port
    window := some window
    lostRun := if r = .lost then min (s.gauge.lostRun + 1) 8 else 0 }
  ∧ t.counter .scansLost = (if r = .lost then countUp (s.counter .scansLost) else s.counter .scansLost)
  ∧ t.flag .scanFault = (s.flag .scanFault || decide (r = .lost ∧ 7 ≤ s.gauge.lostRun))
  ∧ (∀ n, n ≠ .scansLost → t.counter n = s.counter n)
  ∧ (∀ f, f ≠ .scanFault → t.flag f = s.flag f)
  ∧ t.status = { s.status with flags := t.status.flags, counters := t.status.counters }
  ∧ t = { s with gauge := t.gauge, status := t.status }

theorem State.written_scanEnded {port : ScanPort} {w : MeasureWindow} (i : Nat) (r : ScanResult) (hu : u = { s with
    gauge := { s.gauge with port := port, window := some w } }) :
    s.scanEnded port { w with results := w.results.set i (some r) } r (u.written i r w) := by
  have hnotes := State.noteResult_notes (s := u) r
  subst hu
  refine ⟨?_, ?_, hnotes.scanFault, hnotes.counter, hnotes.flag, ?_, ?_⟩
  · rw [State.written, hnotes.gauge]
  · refine hnotes.scansLost.trans ?_
    split <;> rfl
  · rw [State.written, hnotes.eq]
  · rw [State.written, hnotes.eq]

/-! ### The commands of the scan port -/

theorem exec_scanDue {w : MeasureWindow} (hl : s.gaugeLoaded) (hw : s.gauge.window = some w)
    (hn : w.nextScan < s.cfg.scanCount) (ready : Bool) : exec (.scanDue ready) s = .next (s.takeScan ready w) := by
  simp [exec, execScanDue, hl, hw, hn]

theorem exec_srdyAsserted {timer : Ticks} {clocking : Bool} {position : Option Nat} (hl : s.gaugeLoaded)
    (hp : s.gauge.port = .awaiting timer clocking position) :
    exec .srdyAsserted s = .next (s.setPort (.awaiting timer true position)) := by
  simp [exec, execSrdyAsserted, hl, hp]

theorem exec_scanRecordComplete {timer : Ticks} {clocking : Bool} {position : Option Nat} (hl : s.gaugeLoaded)
    (hp : s.gauge.port = .awaiting timer clocking position) (record : Word16) :
    exec (.scanRecordComplete record) s = .next (s.endScan position (scanResultOf s.cfg.beams record)) := by
  simp [exec, execScanRecordComplete, hl, hp]

theorem exec_responseLimitExpiry {timer : Ticks} {clocking : Bool} {position : Option Nat} (hl : s.gaugeLoaded)
    (hp : s.gauge.port = .awaiting timer clocking position) :
    exec .responseLimitExpiry s = .next (s.endScan position .lost) := by
  simp [exec, execResponseLimitExpiry, hl, hp]

/-- R38: a scan begins at an IDLE port. -/
theorem State.takeScan_idle (hp : s.gauge.port = .idle) (ready : Bool) (w : MeasureWindow) :
    s.takeScan ready w = (s.advanceScan w).setPort (.awaiting 0 ready (some w.nextScan)) := by
  simp [State.takeScan, hp]

/-- R43: at a port still AWAITING it is skipped as LOST. -/
theorem State.takeScan_busy (hp : s.gauge.port ≠ .idle) (ready : Bool) (w : MeasureWindow) :
    s.takeScan ready w = (s.advanceScan w).writeResult w.nextScan .lost := by
  cases h : s.gauge.port with
  | idle => exact absurd h hp
  | awaiting timer clocking position => simp [State.takeScan, h]

/-- R185: the two bits of status and the eight of the beam. -/
theorem scanResultOf_append (beams : Nat) (status : BitVec 2) (unused : BitVec 6) (beam : BitVec 8) :
    scanResultOf beams (status ++ unused ++ beam) =
      if status = 0#2 then .clear
      else if status = 1#2 then (if beam.toNat < beams then .stem beam.toNat else .blocked)
      else if status = 2#2 then .blocked else .lost := by
  have hnumber : (status ++ unused ++ beam).toNat = status.toNat * 16384 + unused.toNat * 256 + beam.toNat := by
    rw [BitVec.toNat_append, BitVec.toNat_append, ← Nat.shiftLeft_add_eq_or_of_lt beam.isLt,
      ← Nat.shiftLeft_add_eq_or_of_lt unused.isLt, Nat.shiftLeft_eq, Nat.shiftLeft_eq]
    omega
  have hstatus : (status ++ unused ++ beam).toNat / 16384 = status.toNat := by
    have := unused.isLt; have := beam.isLt; omega
  have hbeam : (status ++ unused ++ beam).toNat % 256 = beam.toNat := by
    have := beam.isLt; omega
  simp only [scanResultOf, hstatus, hbeam, ← BitVec.toNat_inj]
  rfl

theorem State.setPort_window {w : MeasureWindow} (hw : s.gauge.window = some w) (port : ScanPort) :
    s.setPort port = { s with gauge := { s.gauge with port := port, window := some w } } := by
  rw [← hw]
  rfl

/-- Settles O30: each command's guard, then the result counted and written. -/
theorem scansBeginAndEnd : Obligations.ScansBeginAndEnd := by
  refine ⟨scanResultOf_append, fun s w ready hl hw hn => ⟨fun hp => ?_, fun hp hopen => ?_⟩,
    fun s timer clocking position hl hp => ⟨exec_srdyAsserted hl hp, ?_, ?_⟩⟩
  · rw [exec_scanDue hl hw hn, State.takeScan_idle hp]
    rfl
  · have hexec := exec_scanDue hl hw hn ready
    have hadvanced : (s.advanceScan w).gauge.window = some { w with nextScan := w.nextScan + 1 } := rfl
    rw [State.takeScan_busy hp, State.writeResult_eq hadvanced, if_neg (all_isSome_set_eq_false hopen .lost)] at hexec
    have hended := State.written_scanEnded (s := s) (port := s.gauge.port) w.nextScan .lost
      (w := { w with nextScan := w.nextScan + 1 }) (u := s.advanceScan w) rfl
    exact ⟨_, hexec, by simpa [State.scanEnded] using hended⟩
  · rintro rfl record
    exact ⟨exec_scanRecordComplete hl hp record, exec_responseLimitExpiry hl hp⟩
  · rintro i w record rfl hw hopen
    have hwritten (r : ScanResult) : (s.setPort .idle).writeResult i r = (s.setPort .idle).written i r w := by
      rw [State.writeResult_eq (s := s.setPort .idle) hw, if_neg (all_isSome_set_eq_false hopen r)]
    have hended (r : ScanResult) := State.written_scanEnded i r (State.setPort_window hw .idle)
    have hrecord := exec_scanRecordComplete hl hp record
    have hlimit := exec_responseLimitExpiry hl hp
    rw [State.endScan, hwritten] at hrecord hlimit
    exact ⟨⟨_, hrecord, hended _⟩, _, hlimit, by simpa [State.scanEnded] using hended .lost⟩

end Sys2Proof.Machine
end


section
namespace Sys2Proof.Machine

variable {s t u v : State}

/-! ### What the close of a window reads (R44) -/

/-- Two states alike in what the close of a window reads and counts. -/
structure State.SameLot (s v : State) : Prop where
  pins : v.pins = s.pins
  loader : v.loader = s.loader
  tracker : v.tracker = s.tracker
  lotNumber : v.gauge.lotNumber = s.gauge.lotNumber
  lastStemSlot : v.gauge.lastStemSlot = s.gauge.lastStemSlot
  pendingPress : v.gauge.pendingPress = s.gauge.pendingPress
  counter : ∀ n ∈ windowCounters, v.counter n = s.counter n

namespace State.SameLot

theorem cfg (h : s.SameLot v) : v.cfg = s.cfg := State.cfg_of_record_eq (by rw [h.loader])

theorem lastStemAfter (h : s.SameLot v) (slot : Slot) (e : Evaluation) :
    v.lastStemAfter slot e = s.lastStemAfter slot e := by
  cases e with
  | empty => exact h.lastStemSlot
  | stem cls length reason => rfl

theorem stemOffer (h : s.SameLot v) (slot : Slot) (e : Evaluation) : v.stemOffer slot e = s.stemOffer slot e := by
  cases e with
  | empty => rfl
  | stem cls length reason =>
    simp only [State.stemOffer, h.pins, h.lotNumber, h.cfg, State.stationId_of_loader h.loader]

theorem countedReject (h : s.SameLot v) (e : Evaluation) : v.countedReject e = s.countedReject e := by
  cases e with
  | empty => rfl
  | stem cls length reason => simp only [State.countedReject, h.pins]

theorem windowOffers (h : s.SameLot v) (slot : Slot) (e : Evaluation) :
    v.windowOffers slot e = s.windowOffers slot e := by
  simp only [State.windowOffers, h.stemOffer, h.lastStemAfter, h.pendingPress,
    State.lotOffer_congr h.loader h.tracker h.lotNumber]

theorem queueView (h : s.SameLot v) (hbus : v.bus = s.bus) (hhanded : v.handed = s.handed) :
    v.queueView = s.queueView := by
  simp only [State.queueView, hbus, hhanded, h.counter .framesDropped (by decide)]

theorem windowClosed (hs : s.SameLot v) (ht : u.SameLot t) {slot : Slot} {e : Evaluation}
    (h : v.windowClosed slot e u) : s.windowClosed slot e t := by
  obtain ⟨hpress, hlot, hlast, hempties, hheld, hshort, hunmeasured, hunsteady⟩ := h
  rw [hs.pendingPress, hs.lotNumber] at hlot
  rw [hs.pendingPress, hs.lastStemAfter] at hlast
  rw [hs.counter .empties (by decide)] at hempties
  rw [hs.counter .heldStems (by decide), hs.pins] at hheld
  rw [hs.counter .shortRejects (by decide), hs.countedReject] at hshort
  rw [hs.counter .unmeasuredRejects (by decide), hs.countedReject] at hunmeasured
  rw [hs.counter .unsteadyRejects (by decide), hs.countedReject] at hunsteady
  exact ⟨ht.pendingPress.trans hpress, ht.lotNumber.trans hlot, ht.lastStemSlot.trans hlast,
    (ht.counter _ (by decide)).trans hempties, (ht.counter _ (by decide)).trans hheld,
    (ht.counter _ (by decide)).trans hshort, (ht.counter _ (by decide)).trans hunmeasured,
    (ht.counter _ (by decide)).trans hunsteady⟩

theorem refl (s : State) : s.SameLot s := ⟨rfl, rfl, rfl, rfl, rfl, rfl, fun _ _ => rfl⟩

end State.SameLot

/-- The close leaves the Gauge Unit but for the window and the lot fields. -/
theorem State.closeMeasure_gauge_eq (w : MeasureWindow) : (s.closeMeasure w).gauge = { s.gauge with
    window := none
    lotNumber := (s.closeMeasure w).gauge.lotNumber
    lastStemSlot := (s.closeMeasure w).gauge.lastStemSlot
    pendingPress := (s.closeMeasure w).gauge.pendingPress } := by
  rw [State.closeMeasure_gauge]
  split <;> rfl

/-- What the close of a window leaves, in terms of a state `s` alike in what it reads, with the same queue. -/
structure State.Closes (s : State) (slot : Slot) (e : Evaluation) (t : State) : Prop where
  closed : s.windowClosed slot e t
  taken : OffersTaken (s.windowOffers slot e) s.queueView t.queueView
  bus : t.bus = { s.bus with queue := t.bus.queue }

theorem State.SameLot.closes (h : s.SameLot v) (hbus : v.bus = s.bus) (hhanded : v.handed = s.handed)
    (ha : s.offersAccepted) {slot : Slot} {e : Evaluation} {w : MeasureWindow} (hslot : w.slot = slot)
    (he : e = evaluate s.cfg (w.results.map filledResult)) : s.Closes slot e (v.closeMeasure w) := by
  have haccepted : v.offersAccepted := by rwa [State.offersAccepted, h.loader]
  have hclosed := State.closeMeasure_windowClosed (s := v) w
  have htaken := State.closeMeasure_taken haccepted w
  rw [h.cfg, ← he, hslot] at hclosed htaken
  rw [h.windowOffers, h.queueView hbus hhanded] at htaken
  exact ⟨h.windowClosed (.refl _) hclosed, htaken, hbus ▸ (State.SendsOnly.closeMeasure w).bus⟩

/-! ### The result that fills a window (R44) -/

theorem State.scanEnded.sameLot {port : ScanPort} {w : MeasureWindow} {r : ScanResult}
    (h : s.scanEnded port w r v) : s.SameLot v := by
  obtain ⟨hgauge, -, -, hcounter, -, -, heq⟩ := h
  refine ⟨by rw [heq], by rw [heq], by rw [heq], by rw [hgauge], by rw [hgauge], by rw [hgauge], fun n hn => ?_⟩
  exact hcounter n fun h => absurd hn (h ▸ by decide)

/-- The last result of a window is written at the port's next state, and the window closes. -/
theorem State.writeResult_closes {port : ScanPort} {w : MeasureWindow} {i : Nat} {r : ScanResult}
    (hu : u = { s with gauge := { s.gauge with port := port, window := some w } })
    (hfull : (w.results.set i (some r)).all Option.isSome = true) :
    ∃ v, u.writeResult i r = v.closeMeasure { w with results := w.results.set i (some r) }
      ∧ s.scanEnded port { w with results := w.results.set i (some r) } r v := by
  have hw : u.gauge.window = some w := by rw [hu]
  exact ⟨_, (State.writeResult_eq hw i r).trans (if_pos hfull), State.written_scanEnded i r hu⟩

/-- Settles O32: each of the three commands writes the last result, and the close follows. -/
theorem lastScanIssuesTheStem : Obligations.LastScanIssuesTheStem := by
  rintro s c port i r w results e hrole hm hw hc rfl hfull he
  have hl : s.gaugeLoaded := ⟨hrole, .inr (.inl hm)⟩
  obtain ⟨next, u, hexec, hu⟩ : ∃ next u, exec c s = .next (u.writeResult i r) ∧ u = { s with gauge := { s.gauge with
      port := port, window := some { w with nextScan := next } } } := by
    rcases hc with ⟨timer, clocking, record, rfl, rfl, hp, rfl⟩ | ⟨timer, clocking, rfl, rfl, hp, rfl⟩
      | ⟨ready, rfl, rfl, rfl, hn, hp, rfl⟩
    · exact ⟨w.nextScan, _, exec_scanRecordComplete hl hp record, State.setPort_window hw .idle⟩
    · exact ⟨w.nextScan, _, exec_responseLimitExpiry hl hp, State.setPort_window hw .idle⟩
    · exact ⟨w.nextScan + 1, s.advanceScan w, by rw [exec_scanDue hl hw hn, State.takeScan_busy hp], rfl⟩
  obtain ⟨v, hclose, hended⟩ := State.writeResult_closes (r := r) hu hfull
  rw [hclose] at hexec
  have hsame := hended.sameLot
  obtain ⟨hgauge, hlost, hfault, hcounter, hflag, hstatus, heq⟩ := hended
  have hcloses := hsame.closes (by rw [heq]) (by rw [heq]) (.inr hm)
    (w := { w with nextScan := next, results := w.results.set i (some r) }) rfl he
  have hsent := State.SendsOnly.closeMeasure (s := v)
    { w with nextScan := next, results := w.results.set i (some r) }
  refine ⟨_, hexec, ?_, hcloses.closed, ⟨_, hcloses.taken, hcloses.bus, rfl, rfl⟩, ?_, fun n hn hne => ?_, ?_,
    fun f hf => ?_, ?_, ?_⟩
  · rw [State.closeMeasure_gauge_eq, hgauge]
  · rw [State.closeMeasure_counter_other _ (by decide), hlost]
  · rw [State.closeMeasure_counter_other _ hn, hcounter n hne]
  · rw [hsent.flag, hfault]
  · rw [hsent.flag, hflag f hf]
  · rw [hsent.status, hstatus]
  · rw [hsent.eq, heq]

end Sys2Proof.Machine
end


section
namespace Sys2Proof.Machine

variable {s t u v c : State}

/-! ### Run-outs (R62) -/

/-- What stems running out one after the other leave: each counted, the last one's class kept, RUNOUT set. -/
structure State.RunsOut (s : State) (gone : List WatchEntry) (t : State) : Prop where
  eq : t = { s with
    gauge := { s.gauge with
      lastUnserved := (gone.getLast?.map (fun e => unservedClass e.cls)).or s.gauge.lastUnserved }
    status := { s.status with flags := t.status.flags, counters := t.status.counters } }
  unserved : t.counter .unserved = countUp^[gone.length] (s.counter .unserved)
  counter : ∀ n, n ≠ .unserved → t.counter n = s.counter n
  runout : t.flag .runout = (s.flag .runout || decide (gone ≠ []))
  flag : ∀ f, f ≠ .runout → t.flag f = s.flag f

theorem State.RunsOut.snoc {gone : List WatchEntry} (h : s.RunsOut gone t) (e : WatchEntry) :
    s.RunsOut (gone ++ [e]) (t.runOut e.cls) where
  eq := by
    rw [State.runOut, h.eq]
    simp
    rfl
  unserved := by
    rw [List.length_append, List.length_singleton, Function.iterate_succ_apply', ← h.unserved, State.runOut,
      State.raise_counter, State.bump_counter_self]
    rfl
  counter n hn := (State.bump_counter_other (s := { t with gauge := _ }) hn).trans (h.counter n hn)
  runout := by simp [State.runOut]
  flag f hf := (State.raise_flag_other _ hf).trans (h.flag f hf)

theorem State.runsOut_foldl (gone : List WatchEntry) : s.RunsOut gone (gone.foldl (fun t e => t.runOut e.cls) s) := by
  induction gone using List.reverseRecOn with
  | nil => exact ⟨rfl, rfl, fun _ _ => rfl, (Bool.or_false _).symm, fun _ _ => rfl⟩
  | append_singleton gone e ih =>
    rw [List.foldl_append]
    exact ih.snoc e

/-! ### The watch at an arrival (R59, R62) -/

/-- The entries that an arrival finds at the horizon, and those it finds before it. -/
def State.atHorizon (s : State) (here : Slot) (e : WatchEntry) : Bool :=
  decide (s.cfg.runOutHorizon ≤ forwardDistance s.cfg.chainLength here e.slot)

theorem State.refreshEntry_horizon (here : Slot) (e : WatchEntry) :
    ((refreshEntry s.cfg here e).horizon == 0) = s.atHorizon here e := by
  rw [Bool.eq_iff_iff, beq_iff_eq]
  simp only [refreshEntry, passedAt, State.atHorizon, decide_eq_true_iff, Nat.sub_eq_zero_iff_le]

/-- R59, R62: the horizons worked out anew, those at 0 run out. -/
theorem State.workWatch_runsOut (here : Slot) : ({ s with gauge := { s.gauge with
      watch := (s.gauge.watch.filter (fun e => !s.atHorizon here e)).map (refreshEntry s.cfg here) } } : State).RunsOut
    (s.gauge.watch.filter (s.atHorizon here)) (s.workWatch here) := by
  have hgone : (s.gauge.watch.map (refreshEntry s.cfg here)).filter (fun e => e.horizon == 0)
      = (s.gauge.watch.filter (s.atHorizon here)).map (refreshEntry s.cfg here) := by
    simp only [List.filter_map, Function.comp_def, State.refreshEntry_horizon]
  have hstay : (s.gauge.watch.map (refreshEntry s.cfg here)).filter (fun e => e.horizon != 0)
      = (s.gauge.watch.filter (fun e => !s.atHorizon here e)).map (refreshEntry s.cfg here) := by
    simp only [List.filter_map, Function.comp_def, bne, State.refreshEntry_horizon]
  rw [State.workWatch]
  simp only [hgone, hstay, List.foldl_map]
  exact State.runsOut_foldl _

/-! ### A carrier arrival (R42, R45) -/

/-- The arrival after the cut: the watch worked, the window opened, the carrier notice handed over. -/
def State.arrived (a : Arrival) (s : State) : State :=
  ((s.workWatch a.slotHere).openMeasure a).hand (.carrierNotice a.slotHere)

theorem State.workWatch_cfg (here : Slot) : (s.workWatch here).cfg = s.cfg :=
  State.cfg_of_record_eq (by rw [(State.workWatch_loader_tracker here).1])

/-- What the arrival leaves of the state that the cut has left. -/
theorem State.arrived_eq (a : Arrival) : s.arrived a = { s with
    gauge := { s.gauge with
      window := some ⟨a.slotHere, a.period, 0, List.replicate s.cfg.scanCount none, 0⟩
      watch := (s.gauge.watch.filter (fun e => !s.atHorizon a.slotHere e)).map (refreshEntry s.cfg a.slotHere)
      lastUnserved := ((s.gauge.watch.filter (s.atHorizon a.slotHere)).getLast?.map
        (fun e => unservedClass e.cls)).or s.gauge.lastUnserved }
    status := { s.status with flags := (s.arrived a).status.flags, counters := (s.arrived a).status.counters }
    handed := s.handed ++ [.carrierNotice a.slotHere] } := by
  have hwork := (State.workWatch_runsOut (s := s) a.slotHere).eq
  have hstatus : (s.arrived a).status = (s.workWatch a.slotHere).status := rfl
  rw [hstatus, State.arrived, State.openMeasure, State.workWatch_cfg, hwork]
  rfl

theorem State.arrived_gauge (a : Arrival) : (s.arrived a).gauge = { s.gauge with
    window := some ⟨a.slotHere, a.period, 0, List.replicate s.cfg.scanCount none, 0⟩
    watch := (s.gauge.watch.filter (fun e => !s.atHorizon a.slotHere e)).map (refreshEntry s.cfg a.slotHere)
    lastUnserved := ((s.gauge.watch.filter (s.atHorizon a.slotHere)).getLast?.map
      (fun e => unservedClass e.cls)).or s.gauge.lastUnserved } := by
  rw [State.arrived_eq]

theorem State.arrived_handed (a : Arrival) : (s.arrived a).handed = s.handed ++ [.carrierNotice a.slotHere] := by
  rw [State.arrived_eq]

theorem State.arrived_bus (a : Arrival) : (s.arrived a).bus = s.bus := by
  rw [State.arrived_eq]

theorem State.arrived_unserved (a : Arrival) : (s.arrived a).counter .unserved
    = countUp^[(s.gauge.watch.filter (s.atHorizon a.slotHere)).length] (s.counter .unserved) :=
  (State.workWatch_runsOut a.slotHere).unserved

theorem State.arrived_counter (a : Arrival) {n : CounterName} (hn : n ≠ .unserved) :
    (s.arrived a).counter n = s.counter n :=
  (State.workWatch_runsOut a.slotHere).counter n hn

theorem State.arrived_runout (a : Arrival) : (s.arrived a).flag .runout
    = (s.flag .runout || decide (s.gauge.watch.filter (s.atHorizon a.slotHere) ≠ [])) :=
  (State.workWatch_runsOut a.slotHere).runout

theorem State.arrived_flag (a : Arrival) {f : FlagName} (hf : f ≠ .runout) : (s.arrived a).flag f = s.flag f :=
  (State.workWatch_runsOut a.slotHere).flag f hf

/-- The watch is no part of what the close of a window leaves. -/
theorem State.sameLot_arrived (a : Arrival) : s.SameLot (s.arrived a) where
  pins := by rw [State.arrived_eq]
  loader := by rw [State.arrived_eq]
  tracker := by rw [State.arrived_eq]
  lotNumber := by rw [State.arrived_gauge]
  lastStemSlot := by rw [State.arrived_gauge]
  pendingPress := by rw [State.arrived_gauge]
  counter n hn := State.arrived_counter a fun h => absurd hn (h ▸ by decide)

/-! ### The cut of an open window (R45) -/

/-- A cut window's empty positions counted LOST and its outstanding scan dropped (R45 steps 1 and 2). -/
def State.cut (w : MeasureWindow) (s : State) : State := (s.noteCut w.results).setPort (orphanScan s.gauge.port)

theorem State.cutWindow_none (h : s.gauge.window = none) : s.cutWindow = s := by
  simp [State.cutWindow, h]

theorem State.cutWindow_some {w : MeasureWindow} (h : s.gauge.window = some w) :
    s.cutWindow = (s.cut w).closeMeasure w := by
  simp [State.cutWindow, State.cut, h]

/-- How the scans lost with the empty positions lengthen the lost run (R41, R45). -/
def State.lostRunAfter (s : State) (lost : Nat) : Nat :=
  if lost = 0 then s.gauge.lostRun else min (s.gauge.lostRun + lost) 8

theorem State.cut_eq (w : MeasureWindow) : s.cut w = { s with
    gauge := { s.gauge with
      port := orphanScan s.gauge.port, lostRun := s.lostRunAfter (w.results.countP Option.isNone) }
    status := { s.status with flags := (s.cut w).status.flags, counters := (s.cut w).status.counters } } := by
  have hstatus : (s.cut w).status = (s.noteCut w.results).status := rfl
  rw [hstatus, State.cut, (State.noteCut_notes w.results).eq]
  rfl

theorem State.cut_gauge (w : MeasureWindow) : (s.cut w).gauge = { s.gauge with
    port := orphanScan s.gauge.port, lostRun := s.lostRunAfter (w.results.countP Option.isNone) } := by
  rw [State.cut_eq]

theorem State.cut_counter (w : MeasureWindow) {n : CounterName} (hn : n ≠ .scansLost) :
    (s.cut w).counter n = s.counter n :=
  (State.noteCut_notes w.results).counter n hn

theorem State.sameLot_cut (w : MeasureWindow) : s.SameLot (s.cut w) where
  pins := by rw [State.cut_eq]
  loader := by rw [State.cut_eq]
  tracker := by rw [State.cut_eq]
  lotNumber := by rw [State.cut_gauge]
  lastStemSlot := by rw [State.cut_gauge]
  pendingPress := by rw [State.cut_gauge]
  counter n hn := State.cut_counter w fun h => absurd hn (h ▸ by decide)

/-- What the cut leaves whether a window was open or not. -/
structure State.CutLeaves (s c : State) : Prop where
  eq : c = { s with gauge := c.gauge, bus := c.bus, status := c.status, handed := c.handed }
  watch : c.gauge.watch = s.gauge.watch
  lastUnserved : c.gauge.lastUnserved = s.gauge.lastUnserved
  lotFilter : c.gauge.lotFilter = s.gauge.lotFilter
  unserved : c.counter .unserved = s.counter .unserved
  runout : c.flag .runout = s.flag .runout
  status : c.status = { s.status with flags := c.status.flags, counters := c.status.counters }

theorem State.cutWindow_leaves : s.CutLeaves s.cutWindow := by
  cases h : s.gauge.window with
  | none =>
    rw [State.cutWindow_none h]
    exact ⟨rfl, rfl, rfl, rfl, rfl, rfl, rfl⟩
  | some w =>
    rw [State.cutWindow_some h]
    have hsent := State.SendsOnly.closeMeasure (s := s.cut w) w
    refine ⟨?_, ?_, ?_, ?_, ?_, ?_, ?_⟩
    · rw [hsent.eq, State.cut_eq]
    · rw [State.closeMeasure_gauge_eq, State.cut_gauge]
    · rw [State.closeMeasure_gauge_eq, State.cut_gauge]
    · rw [State.closeMeasure_gauge_eq, State.cut_gauge]
    · rw [State.closeMeasure_counter_other _ (by decide), State.cut_counter w (by decide)]
    · rw [hsent.flag]
      exact (State.noteCut_notes w.results).flag .runout (by decide)
    · rw [hsent.status, State.cut_eq]

/-- What the cut leaves of an open window with so many empty positions (R45 steps 1 to 4). -/
structure State.CutShort (s : State) (w : MeasureWindow) (lost : Nat) (e : Evaluation) (c : State) : Prop where
  port : c.gauge.port = orphanScan s.gauge.port
  lostRun : c.gauge.lostRun = s.lostRunAfter lost
  scansLost : c.counter .scansLost = countUp^[lost] (s.counter .scansLost)
  scanFault : c.flag .scanFault = (s.flag .scanFault || decide (lost ≠ 0 ∧ 8 ≤ s.gauge.lostRun + lost))
  closes : s.Closes w.slot e c
  counter : ∀ n, n ∉ windowCounters → n ≠ .scansLost → c.counter n = s.counter n
  flag : ∀ f, f ≠ .scanFault → c.flag f = s.flag f

theorem State.cutWindow_cutShort {w : MeasureWindow} {lost : Nat} {e : Evaluation} (ha : s.offersAccepted)
    (hw : s.gauge.window = some w) (hlost : lost = w.results.countP Option.isNone)
    (he : e = evaluate s.cfg (w.results.map filledResult)) : s.CutShort w lost e s.cutWindow := by
  subst hlost
  have hnotes := State.noteCut_notes (s := s) w.results
  have hsent := State.SendsOnly.closeMeasure (s := s.cut w) w
  rw [State.cutWindow_some hw]
  refine ⟨?_, ?_, ?_, ?_, (State.sameLot_cut w).closes (by rw [State.cut_eq]) (by rw [State.cut_eq]) ha rfl he,
    fun n hn hl => ?_, fun f hf => ?_⟩
  · rw [State.closeMeasure_gauge_eq, State.cut_gauge]
  · rw [State.closeMeasure_gauge_eq, State.cut_gauge]
  · exact (State.closeMeasure_counter_other w (by decide)).trans hnotes.scansLost
  · exact (hsent.flag _).trans hnotes.scanFault
  · rw [State.closeMeasure_counter_other w hn, State.cut_counter w hl]
  · exact (hsent.flag f).trans (hnotes.flag f hf)

theorem exec_gaugeCarrierArrival_announcing (hrole : s.loader.role = some .gauge) (hm : s.loader.mode = .announcing)
    (a : Arrival) : exec (.gaugeCarrierArrival a) s
      = .next ((s.taken (.gaugeCarrierArrival a)).hand (.carrierNotice a.slotHere)) := by
  simp [exec, execGaugeCarrierArrival, hrole, hm]

theorem exec_gaugeCarrierArrival_active (h : s.gaugeActive) (a : Arrival) :
    exec (.gaugeCarrierArrival a) s = .next ((s.taken (.gaugeCarrierArrival a)).cutWindow.arrived a) :=
  congrArg Host.Outcome.next (if_pos h)

theorem State.not_atHorizon (here : Slot) (e : WatchEntry) : (!s.atHorizon here e)
    = decide (forwardDistance s.cfg.chainLength here e.slot < s.cfg.runOutHorizon) := by
  rw [State.atHorizon, ← decide_not, decide_eq_decide, Nat.not_le]

/-- Settles O29: the cut, if a window is open, then the arrival on what it leaves. -/
theorem gaugeArrivalOpensAWindow : Obligations.GaugeArrivalOpensAWindow := by
  rintro s base a runOuts hrole rfl rfl
  refine ⟨fun hm => exec_gaugeCarrierArrival_announcing hrole hm a, fun hm => ?_⟩
  have hleaves := State.cutWindow_leaves (s := s.taken (.gaugeCarrierArrival a))
  have hexec := exec_gaugeCarrierArrival_active ⟨hrole, hm⟩ a
  have hnone := State.cutWindow_none (s := s.taken (.gaugeCarrierArrival a))
  have hshort (w : MeasureWindow) (lost : Nat) (e : Evaluation) :=
    State.cutWindow_cutShort (s := s.taken (.gaugeCarrierArrival a)) (w := w) (lost := lost) (e := e) (.inr hm)
  generalize (s.taken (.gaugeCarrierArrival a)).cutWindow = c at hleaves hexec hnone hshort
  have hcfg : c.cfg = s.cfg := State.cfg_of_record_eq (by rw [hleaves.eq]; rfl)
  have hgone : c.gauge.watch.filter (c.atHorizon a.slotHere) = s.gauge.watch.filter (fun e =>
      decide (s.cfg.runOutHorizon ≤ forwardDistance s.cfg.chainLength a.slotHere e.slot)) := by
    unfold State.atHorizon
    rw [hcfg, hleaves.watch]
    rfl
  refine ⟨_, hexec, ?_, ?_, ?_, ?_, ?_, fun hw => ?_, fun w lost e hw hlost he => ?_, ?_, ?_, ?_⟩
  · rw [State.arrived_gauge, hcfg]
  · simp only [State.arrived_gauge, State.not_atHorizon, hcfg, hleaves.watch]
    rfl
  · rw [State.arrived_unserved, hgone, hleaves.unserved]
    rfl
  · rw [State.arrived_gauge, hgone, hleaves.lastUnserved]
    cases List.getLast? _ <;> rfl
  · rw [State.arrived_runout, hgone, hleaves.runout]
    rfl
  · obtain rfl := hnone hw
    refine ⟨?_, ?_, ?_, ?_, ?_, State.arrived_bus a, State.arrived_handed a, fun n => State.arrived_counter a,
      fun f => State.arrived_flag a⟩ <;> rw [State.arrived_gauge] <;> rfl
  · have hcut := hshort w lost e hw hlost he
    refine ⟨?_, ?_, ?_, ?_, (State.SameLot.refl s).windowClosed (State.sameLot_arrived a) hcut.closes.closed,
      ⟨c.queueView, hcut.closes.taken, ?_, State.arrived_handed a, State.arrived_counter a (by decide)⟩,
      fun n hn hu hl => (State.arrived_counter a hu).trans (hcut.counter n hn hl),
      fun f hr hf => (State.arrived_flag a hr).trans (hcut.flag f hf)⟩
    · rw [State.arrived_gauge]
      refine hcut.port.trans ?_
      show orphanScan s.gauge.port = _
      cases s.gauge.port <;> rfl
    · exact (State.arrived_counter a (by decide)).trans hcut.scansLost
    · rw [State.arrived_gauge]
      exact hcut.lostRun
    · exact (State.arrived_flag a (by decide)).trans hcut.scanFault
    · exact (State.arrived_bus a).trans hcut.closes.bus
  · rw [State.arrived_gauge, hleaves.lotFilter]
    rfl
  · rw [State.arrived_eq, hleaves.status]
    rfl
  · rw [State.arrived_eq, hleaves.eq]
    rfl

end Sys2Proof.Machine
end


section
/-! SUPPORT. Proofs of the statements on the flight table: its slots and lots under every command, heard frames, and
withdrawals by where their CLAIM stands, at heard frames, outcomes, carrier arrivals, holds and clears. -/

namespace Sys2Proof.Machine

variable {s t : State}

/-! ### The Flight Table under the operations of other blocks -/

/-- A walk whose every stride leaves the Flight Table leaves it. -/
theorem foldl_table {α : Type} (f : State → α → State) (hf : ∀ t a, (f t a).table = t.table) (l : List α) (s : State) :
    (l.foldl f s).table = s.table :=
  foldl_keeps (fun t => t.table = s.table) f (fun t a h => (hf t a).trans h) l s rfl

@[simp] theorem State.takeCarrierNotice_table (here : Slot) : (s.takeCarrierNotice here).table = s.table :=
  foldl_table _ (by simp) _ _

theorem State.workWatch_table (here : Slot) : (s.workWatch here).table = s.table := foldl_table _ (by simp) _ _

theorem State.noteCut_table (results : List (Option ScanResult)) : (s.noteCut results).table = s.table :=
  foldl_table _ (fun t r => by split <;> simp) _ _

@[simp] theorem State.cutWindow_table : s.cutWindow.table = s.table := by
  unfold State.cutWindow
  split
  · rfl
  · simp [State.noteCut_table]

@[simp] theorem State.cancelCleared_table (c : CradleId) : (s.cancelCleared c).table = s.table := by
  unfold State.cancelCleared
  (repeat' split) <;> simp

@[simp] theorem State.takeModeNotice_table (block : Block) (held : Bool) :
    (s.takeModeNotice block held).table = s.table := by
  cases block <;> simp [State.takeModeNotice]

@[simp] theorem State.missAcknowledge_table : s.missAcknowledge.table = s.table := by
  unfold State.missAcknowledge
  (repeat' split) <;> rfl

@[simp] theorem State.retryRead_table : s.retryRead.table = s.table := by
  unfold State.retryRead
  split <;> rfl

/-- R172: loading leaves the Flight Table at its reset values. -/
@[simp] theorem State.endRead_table (bytes : List Byte) : (s.endRead bytes).table = s.table := by
  have hrecord (role : Role) (cfg : StationConfig) : (s.takeRecord role cfg).table = s.table := by
    cases role <;> simp [State.takeRecord, State.beginAnnouncing, State.loadRoleBlocks, State.loadStatusPort,
      State.loadDropBlocks, State.loadGaugeUnit, State.loadLineBus, State.loadTracker]
  unfold State.endRead
  split
  case h_1 =>
    unfold State.judgeRecord
    split
    · exact hrecord _ _
    · rfl
  all_goals rfl

end Sys2Proof.Machine
end

section
namespace Sys2Proof.Machine

variable {s t : State}

/-! ### Slots and lots kept apart (R67, R80) -/

theorem State.tableSound.of_table (hs : s.tableSound) (h : t.table = s.table) : t.tableSound := by
  rwa [State.tableSound, h]

/-- A table emptied at reset or at the entry to HALTED. -/
theorem State.tableSound_of_empty (h : s.table = FlightTable.reset) : s.tableSound := by
  simp [State.tableSound, h, FlightTable.reset]

theorem tableSound_ite {p : Prop} [Decidable p] {a b : State} (ha : p → a.tableSound) (hb : ¬ p → b.tableSound) :
    (if p then a else b).tableSound := by
  split
  case isTrue hp => exact ha hp
  case isFalse hp => exact hb hp

/-- A table from which entries and records may have left, in whatever states and order the others stand now. -/
theorem State.tableSound.of_subperm (hs : s.tableSound)
    (hentries : (t.table.entries.map (fun e => e.slot)).Subperm (s.table.entries.map (fun e => e.slot)))
    (hlots : (t.table.lotCloses.map (fun r => r.lot)).Subperm (s.table.lotCloses.map (fun r => r.lot))) :
    t.tableSound := by
  obtain ⟨hslots, hlen, hnodup⟩ := hs
  have hle := hlots.length_le
  rw [List.length_map, List.length_map] at hle
  obtain ⟨slots, hslotsPerm, hslotsSub⟩ := hentries
  obtain ⟨lots, hlotsPerm, hlotsSub⟩ := hlots
  exact ⟨hslotsPerm.nodup_iff.mp (hslots.sublist hslotsSub), hle.trans hlen,
    hlotsPerm.nodup_iff.mp (hnodup.sublist hlotsSub)⟩

/-- A new state of an entry leaves every slot as it was. -/
theorem State.setEntry_slots (slot : Slot) (st : EntryState) :
    (s.setEntry slot st).table.entries.map (fun e => e.slot) = s.table.entries.map (fun e => e.slot) := by
  simp only [State.setEntry_table, List.map_map]
  refine List.map_congr_left fun e _ => ?_
  simp only [Function.comp]
  split <;> rfl

theorem State.tableSound.setEntry (hs : s.tableSound) (slot : Slot) (st : EntryState) :
    (s.setEntry slot st).tableSound :=
  hs.of_subperm (by rw [State.setEntry_slots]) (.refl _)

theorem State.tableSound.removeEntry (hs : s.tableSound) (slot : Slot) : (s.removeEntry slot).tableSound :=
  hs.of_subperm (List.filter_sublist.map _).subperm (.refl _)

theorem State.tableSound.withdrawNow (hs : s.tableSound) (slot : Slot) (c : CradleId) (target : WithdrawalTarget) :
    (s.withdrawNow slot c target).tableSound := by
  cases target with
  | unclaimed | other n | released => exact (hs.setEntry slot _).of_table rfl
  | removal => exact (hs.removeEntry slot).of_table rfl

/-- R74: a withdrawal gives its entry another state, or removes it. -/
theorem State.tableSound.withdraw (hs : s.tableSound) (slot : Slot) (w : Withdrawal) :
    (s.withdraw slot w).tableSound := by
  by_cases h : ∃ e c y a, s.entry? slot = some e ∧ e.state = .tentative c y a
  · obtain ⟨e, c, y, a, he, hst⟩ := h
    have hasked : (s.requestRemoval (.claim slot c)).2.tableSound := hs.of_table (by simp)
    rcases s.withdraw_cases slot w he hst with ⟨target, hw⟩ | ⟨-, y', a', hw⟩ <;> rw [hw]
    · exact hasked.withdrawNow slot c target
    · exact hasked.setEntry slot _
  · rwa [s.withdraw_other slot w fun e he c y a hst => h ⟨e, c, y, a, he, hst⟩]

/-- R30, R74: the end of a contention carries out the withdrawal that waited on it. -/
theorem State.tableSound.answerLeft (hs : s.tableSound) (answer : RemovalAnswer) (body : FrameBody) :
    (s.answerLeft answer body).tableSound := by
  have hheld : (s.answerHeld answer).tableSound := hs.of_table (by simp)
  cases hclaim : claimSlot body with
  | none => rwa [State.answerLeft_other answer hclaim]
  | some slot =>
    rw [State.answerLeft_claim answer hclaim]
    rcases (s.answerHeld answer).answerRemoved_cases slot with h | ⟨e, c, y, w, -, -, h⟩ <;> rw [h]
    · exact hheld
    · exact hheld.withdrawNow slot c w.target

theorem State.tableSound.answerSending (hs : s.tableSound) (body : FrameBody) : (s.answerSending body).tableSound := by
  have hheld : (s.answerHeld .inTransmission).tableSound := hs.of_table (by simp)
  cases hclaim : claimSlot body with
  | none => rwa [State.answerSending_other hclaim]
  | some slot =>
    rw [State.answerSending_claim hclaim]
    cases hw : ((s.answerHeld .inTransmission).entry? slot).bind FlightEntry.waiting with
    | none => rwa [State.answerInTransmission_of_none hw]
    | some w =>
      rw [State.answerInTransmission_of_waiting hw]
      exact hheld.setEntry _ _

theorem State.tableSound.loseContention (hs : s.tableSound) : s.loseContention.tableSound := by
  have hleft : s.leaveContended.tableSound := hs
  unfold State.loseContention
  split
  · exact hs
  · split
    · exact hs
    · next q _ _ _ => exact State.tableSound.answerLeft (s := s.leaveContended.expire q.frame.body) hleft _ _
    · next q _ _ _ =>
      exact State.tableSound.answerLeft (s := s.leaveContended.hand (outcomeArrival q.frame.body .removed)) hleft _ _

/-! ### Heard frames -/

theorem State.entry?_isSome_iff {slot : Slot} :
    (s.entry? slot).isSome = true ↔ ∃ e ∈ s.table.entries, e.slot = slot := by
  simp [State.entry?, List.find?_isSome]

/-- R69: an entry joins a table that has none for its slot. -/
theorem State.tableSound.joinEntry (hs : s.tableSound) {e : FlightEntry} (hnew : ¬ (s.entry? e.slot).isSome = true) :
    (s.joinEntry e).tableSound := by
  obtain ⟨hslots, hlots⟩ := hs
  have hperm := (insertByKey_perm (fun x : FlightEntry => s.rem x.slot) e s.table.entries).map (fun x => x.slot)
  refine ⟨hperm.nodup_iff.mpr (List.nodup_cons.mpr ⟨fun hmem => hnew ?_, hslots⟩), hlots⟩
  obtain ⟨x, hx, hslot⟩ := List.mem_map.mp hmem
  exact State.entry?_isSome_iff.mpr ⟨x, hx, hslot⟩

theorem State.tableSound.judgeStem (hs : s.tableSound) (slot : Slot) (cls lotNo : Nat) :
    (s.judgeStem slot cls lotNo).tableSound :=
  tableSound_ite (fun _ => hs) fun _ => tableSound_ite (fun _ => hs) fun _ => tableSound_ite (fun _ => hs) fun _ =>
    tableSound_ite (fun _ => hs) fun _ => tableSound_ite (fun _ => hs) fun hnew =>
      (State.tableSound.joinEntry hs (e := ⟨slot, cls, lotNo, .unclaimed⟩) hnew).of_table rfl

theorem State.tableSound.peerClaim (hs : s.tableSound) (slot : Slot) (sender : Nat) (st : EntryState) :
    (s.peerClaim slot sender st).tableSound := by
  cases st with
  | tentative c y a => exact hs.withdraw slot _
  | unclaimed | yielded => exact hs.setEntry slot _
  | mine c | other n | released => exact hs.of_table rfl

theorem State.tableSound.ownClaim (hs : s.tableSound) (slot : Slot) (st : EntryState) :
    (s.ownClaim slot st).tableSound := by
  cases st with
  | tentative c y a =>
    have hmine : (((s.setEntry slot (.mine c)).hand (.win c)).bump .claimsWon).tableSound := hs.setEntry slot _
    cases y with
    | none => exact hmine
    | some reason => exact (hmine.setEntry slot .released).of_table rfl
  | unclaimed | yielded | mine c | other n | released => exact hs.of_table rfl

theorem State.tableSound.judgeClaim (hs : s.tableSound) (slot : Slot) (sender : Nat) :
    (s.judgeClaim slot sender).tableSound := by
  unfold State.judgeClaim
  split
  · exact hs
  · exact tableSound_ite (fun _ => hs.ownClaim slot _) fun _ => hs.peerClaim slot sender _

theorem State.tableSound.judgeYield (hs : s.tableSound) (slot : Slot) (sender : Nat) :
    (s.judgeYield slot sender).tableSound := by
  have hcounted : (if sender = s.stationId then s else s.bump .yieldsHeard).tableSound :=
    tableSound_ite (fun _ => hs) fun _ => hs
  unfold State.judgeYield State.yieldEntry
  split
  · exact hcounted
  · split
    case h_1 => exact tableSound_ite (fun _ => hcounted.setEntry slot _) fun _ => hcounted
    all_goals exact hcounted

/-- R81: the nearest record of a full list leaves it. -/
theorem State.fireNearest_table {r : LotClose}
    (h : leastBy (fun x => s.rem x.lastSlot) s.table.lotCloses = some r) :
    s.fireNearest.table = { s.table with lotCloses := s.table.lotCloses.erase r } := by
  simp [State.fireNearest, h]

/-- R80, R81: a record joins a list that has room and none for its lot. -/
theorem State.tableSound.joinLotClose (hs : s.tableSound) {r : LotClose}
    (hroom : s.table.lotCloses.length < lotCloseCapacity) (hnew : ∀ x ∈ s.table.lotCloses, x.lot ≠ r.lot) :
    (s.joinLotClose r).tableSound := by
  obtain ⟨hslots, -, hlots⟩ := hs
  have hperm := insertByKey_perm (fun x : LotClose => s.rem x.lastSlot) r s.table.lotCloses
  refine ⟨hslots, hperm.length_eq.trans_le hroom,
    (hperm.map _).nodup_iff.mpr (List.nodup_cons.mpr ⟨fun hmem => ?_, hlots⟩)⟩
  obtain ⟨x, hx, hlot⟩ := List.mem_map.mp hmem
  exact hnew x hx hlot

theorem State.tableSound.fireNearest (hs : s.tableSound) : s.fireNearest.tableSound := by
  cases h : leastBy (fun x => s.rem x.lastSlot) s.table.lotCloses with
  | none => simpa [State.fireNearest, h] using hs
  | some r =>
    refine hs.of_subperm ?_ ?_ <;> rw [State.fireNearest_table h]
    exact (List.erase_sublist.map _).subperm

/-- R81: a full list has a nearest record, and its firing makes room for one. -/
theorem State.fireNearest_room (hlen : s.table.lotCloses.length ≤ lotCloseCapacity) :
    s.fireNearest.table.lotCloses.length < lotCloseCapacity := by
  cases h : leastBy (fun x => s.rem x.lastSlot) s.table.lotCloses with
  | none =>
    have hnil : s.table.lotCloses = [] := by
      cases hl : s.table.lotCloses with
      | nil => rfl
      | cons x rest =>
        have hsome := leastBy_isSome (fun r : LotClose => s.rem r.lastSlot) x rest
        rw [← hl, h] at hsome
        cases hsome
    rw [State.fireNearest, h]
    simp [hnil, lotCloseCapacity]
  | some r =>
    obtain ⟨before, after, hsplit, -⟩ := leastBy_spec _ _ _ h
    have hmem : r ∈ s.table.lotCloses := by simp [hsplit]
    have hpos := List.length_pos_of_mem hmem
    rw [State.fireNearest_table h, List.length_erase_of_mem hmem]
    omega

theorem State.mem_of_mem_fireNearest {r : LotClose} (h : r ∈ s.fireNearest.table.lotCloses) :
    r ∈ s.table.lotCloses := by
  cases hleast : leastBy (fun x => s.rem x.lastSlot) s.table.lotCloses with
  | none => simpa [State.fireNearest, hleast] using h
  | some x =>
    rw [State.fireNearest_table hleast] at h
    exact List.mem_of_mem_erase h

/-- R81: a heard LOT first takes the older record of its lot away. -/
theorem State.tableSound.judgeLot (hs : s.tableSound) (lotNo : Nat) (last : Slot) :
    (s.judgeLot lotNo last).tableSound := by
  have hothers : ({ s with table := { s.table with
      lotCloses := s.table.lotCloses.filter (fun r => r.lot != lotNo) } } : State).tableSound :=
    hs.of_subperm (.refl _) (List.filter_sublist.map _).subperm
  have hnew : ∀ x ∈ s.table.lotCloses.filter (fun r => r.lot != lotNo), x.lot ≠ lotNo := by simp
  have ⟨_, hlen, _⟩ := hothers
  exact tableSound_ite (fun _ => hs) fun _ => tableSound_ite (fun _ => hothers) fun _ =>
    tableSound_ite (fun hroom => hothers.joinLotClose hroom hnew) fun _ =>
      hothers.fireNearest.joinLotClose (State.fireNearest_room hlen)
        fun x hx => hnew x (State.mem_of_mem_fireNearest hx)

/-! ### Carrier arrivals, holds and clears -/

theorem State.tableSound.passEvent (hs : s.tableSound) (period : Ticks) (e : FlightEntry) :
    (s.passEvent period e).tableSound := by
  unfold State.passEvent
  split
  case h_2 => exact hs.withdraw e.slot _
  all_goals exact (hs.removeEntry e.slot).of_table rfl

theorem State.tableSound.slipRemoval (hs : s.tableSound) (e : FlightEntry) : (s.slipRemoval e).tableSound := by
  unfold State.slipRemoval
  split
  case h_2 => exact hs.withdraw e.slot _
  all_goals exact (hs.removeEntry e.slot).of_table rfl

theorem State.tableSound.giveBack (hs : s.tableSound) (reason : YieldReason) (e : FlightEntry) :
    (s.giveBack reason e).tableSound := by
  unfold State.giveBack
  split
  case h_1 => exact hs.withdraw e.slot _
  case h_2 => exact (hs.setEntry e.slot .released).of_table rfl
  all_goals exact hs

theorem State.tableSound.claimDeadlines (hs : s.tableSound) (here : Slot) : (s.claimDeadlines here).tableSound :=
  foldl_keeps State.tableSound _ (fun _ e ht => ht.withdraw e.slot _) _ s hs

theorem State.tableSound.fireLots (hs : s.tableSound) (fires : LotClose → Bool) : (s.fireLots fires).tableSound :=
  hs.of_subperm (.refl _) (List.filter_sublist.map _).subperm

/-- R79, R82: a slip's order of entries and records. -/
theorem State.tableSound.replace (hs : s.tableSound) (here : Slot) : (s.replace here).tableSound :=
  hs.of_subperm ((sortByKey_perm _ _).map _).subperm ((sortByKey_perm _ _).map _).subperm

theorem State.tableSound.ordinaryArrival (hs : s.tableSound) (a : Arrival) : (s.ordinaryArrival a).tableSound :=
  ((foldl_keeps State.tableSound _ (fun _ e ht => ht.passEvent a.period e) _ s hs).claimDeadlines a.slotHere).fireLots _

theorem State.tableSound.slipArrival (hs : s.tableSound) (a : Arrival) : (s.slipArrival a).tableSound :=
  (((foldl_keeps State.tableSound _ (fun _ e ht => ht.slipRemoval e) _ s hs).claimDeadlines a.slotHere).replace
    a.slotHere).fireLots _

theorem State.tableSound.giveBackAll (hs : s.tableSound) (reason : YieldReason) : (s.giveBackAll reason).tableSound :=
  foldl_keeps State.tableSound _ (fun _ e ht => ht.giveBack reason e) _ s hs

theorem State.tableSound.giveBackCradle (hs : s.tableSound) (c : CradleId) : (s.giveBackCradle c).tableSound :=
  foldl_keeps State.tableSound _ (fun _ e ht => ht.giveBack .void e) _ s hs

theorem State.tableSound.takeClaimOutcome (hs : s.tableSound) (slot : Slot) (outcome : FrameOutcome) :
    (s.takeClaimOutcome slot outcome).tableSound := by
  unfold State.takeClaimOutcome
  split
  · exact hs
  · split
    case h_1 =>
      split
      case h_1 | h_7 | h_8 => exact hs
      all_goals exact hs.withdrawNow slot _ _
    all_goals exact hs

/-! ### The candidacy pass -/

/-- R101: a claim, and its withdrawal at a refusal, change an entry's state only. -/
theorem State.tableSound.claim (hs : s.tableSound) (e : FlightEntry) (service : ServiceEntry) (c : CradleId) :
    (s.claim e service c).tableSound := by
  have hclaimed : ((s.reserve c e.cls e.lot).setEntry e.slot (.tentative c none none)).tableSound :=
    (hs.of_table (by simp) : (s.reserve c e.cls e.lot).tableSound).setEntry _ _
  have hoffered := hclaimed.of_table (t := (((s.reserve c e.cls e.lot).setEntry e.slot (.tentative c none none)).offer
    ⟨claimValue service (s.claimCount c) s.stationId, .claim e.slot c⟩).2) (by simp)
  unfold State.claim
  dsimp only
  split <;> next answer => rw [answer] at hoffered; simp [hoffered, State.tableSound.withdrawNow]

theorem State.tableSound.judgeEntry (hs : s.tableSound) (slot : Slot) : (s.judgeEntry slot).tableSound := by
  unfold State.judgeEntry
  split
  · exact hs
  · split
    · exact hs
    · refine tableSound_ite (fun _ => ?_) fun _ => hs
      split
      · exact hs
      · exact tableSound_ite (fun _ => hs.claim _ _ _) fun _ => hs

theorem State.tableSound.runPass (hs : s.tableSound) : s.runPass.tableSound :=
  foldl_keeps State.tableSound _ (fun _ slot ht => ht.judgeEntry slot) _ s hs

/-! ### Every command keeps slots and lots apart -/

/-- R86: the Flight Table's entry to HALTED empties it; the other blocks' leaves it. -/
theorem State.tableSound.takeHaltNotice (hs : s.tableSound) (block : Block) (held : Bool) :
    (s.takeHaltNotice block held).tableSound := by
  cases block with
  | flightTable => exact tableSound_ite (fun _ => State.tableSound_of_empty rfl) fun _ => hs
  | lineBus | gaugeUnit | claimEngine | cradleManager | releaseUnit | tiePort =>
    exact hs.of_table (by simp [State.takeHaltNotice])

theorem execContentionDriveFailed_tableSound (hs : s.tableSound) :
    ∃ t, execContentionDriveFailed s = .next t ∧ t.tableSound := by
  refine ⟨_, rfl, tableSound_ite (fun _ => ?_) fun _ => hs⟩
  split
  · exact hs
  · next q _ =>
    have hleft : (s.beginReceiving false).leaveContended.tableSound := hs
    exact (hleft.answerSending q.frame.body).of_table (State.spoilFrame_table _)

theorem execContentionWon_tableSound (hs : s.tableSound) : ∃ t, execContentionWon s = .next t ∧ t.tableSound := by
  refine ⟨_, rfl, tableSound_ite (fun _ => ?_) fun _ => hs⟩
  split
  · exact hs
  · next q _ =>
    have hsending : ({ (s.lineState .sending 0).leaveContended with
        bus := { (s.lineState .sending 0).leaveContended.bus with sending := some q.frame } } : State).tableSound := hs
    exact hsending.answerSending q.frame.body

theorem execStuckEntry_tableSound (hs : s.tableSound) : ∃ t, execStuckEntry s = .next t ∧ t.tableSound := by
  refine ⟨_, rfl, ?_⟩
  split
  case h_3 => exact State.tableSound.loseContention (s := s.lineState .stuck 0) hs
  all_goals exact hs.of_table (by simp)

theorem State.table_of_requestRemoval {b : FrameBody} {answer : RemovalAnswer} (h : s.requestRemoval b = (answer, t)) :
    t.table = s.table := by
  have hframe := s.requestRemoval_frame b
  rw [h] at hframe
  obtain ⟨-, -, -, -, htable, -⟩ := hframe
  exact htable

theorem execRemovalRequest_tableSound (hs : s.tableSound) (body : FrameBody) :
    ∃ t, execRemovalRequest body s = .next t ∧ t.tableSound := by
  refine ⟨_, rfl, tableSound_ite (fun _ => ?_) fun _ => hs⟩
  split <;> next answer => exact hs.of_table (by simp [State.table_of_requestRemoval answer])

/-- R67, R80: an entry joins by a STEM and a record by a LOT only; the commands of other blocks change an entry's state,
take it out, or leave the table. -/
theorem exec_tableSound (c : Instr) (hs : s.tableSound) : ∃ t, exec c s = .next t ∧ t.tableSound := by
  have htaken (i : Instr) : (s.taken i).tableSound := hs
  cases c with
  -- the loader and the inputs
  | reset => exact ⟨_, rfl, State.tableSound_of_empty rfl⟩
  | haltNotice block held =>
    exact ⟨_, rfl, tableSound_ite (fun _ => (htaken _).takeHaltNotice block held) fun _ => hs⟩
  | resetRelease _ _ => exact ⟨_, rfl, tableSound_ite (fun _ => hs) fun _ => hs⟩
  | recordReadComplete _ | memoryNoAcknowledge | retryWaitExpiry | announceTimerExpiry | modeNotice _ _
  | helloOutcome _ | filterInputAsserted _ | filterInputReleased _ | cpQualification _ | stall | filteredGateEdge
  | holdLevelChange _ => exact ⟨_, rfl, hs.of_table (by simp)⟩
  -- the line and its queue
  | contentionLost =>
    exact ⟨_, rfl, tableSound_ite (fun _ => State.tableSound.loseContention (s := s.beginReceiving false) hs)
      fun _ => hs⟩
  | contentionDriveFailed => exact execContentionDriveFailed_tableSound hs
  | contentionWon => exact execContentionWon_tableSound hs
  | frameDiscarded cause =>
    exact ⟨_, rfl, tableSound_ite (fun _ => (hs.of_table (by simp)).loseContention) fun _ => hs⟩
  | stuckEntry => exact execStuckEntry_tableSound hs
  | removalRequest body => exact execRemovalRequest_tableSound hs body
  | idleGapComplete | dominantLevelInWaitGap | contentionWindow | spoil | frameSent | frameHeard _ | stuckExit
  | carrierNotice _ => exact ⟨_, rfl, hs.of_table (by (repeat' split) <;> simp)⟩
  -- the gauge
  | gaugeCarrierArrival _ =>
    exact ⟨_, rfl, hs.of_table (by (repeat' split) <;> simp [State.openMeasure, State.workWatch_table])⟩
  | scanDue _ | srdyAsserted | scanRecordComplete _ | responseLimitExpiry | lotPress | gaugeStemHeard _ _
  | gaugeClaimHeard _ | gaugeYieldHeard _ | stemOutcome _ _ | lotOutcome _ _ _ =>
    exact ⟨_, rfl, hs.of_table (by (repeat' split) <;> simp)⟩
  -- the flight table and the claim engine
  | flightTableStem slot cls lotNo => exact ⟨_, rfl, (htaken _).judgeStem slot cls lotNo⟩
  | flightTableClaim _ _ _ => exact ⟨_, rfl, tableSound_ite (fun _ => (htaken _).judgeClaim _ _) fun _ => hs⟩
  | flightTableYield _ _ _ => exact ⟨_, rfl, tableSound_ite (fun _ => (htaken _).judgeYield _ _) fun _ => hs⟩
  | flightTableLot _ _ => exact ⟨_, rfl, tableSound_ite (fun _ => (htaken _).judgeLot _ _) fun _ => hs⟩
  | flightTableCarrierArrival a =>
    exact ⟨_, rfl, tableSound_ite (fun _ => tableSound_ite (fun _ => (htaken _).slipArrival a)
      fun _ => (htaken _).ordinaryArrival a) fun _ => hs⟩
  | clearNoticeFlightTable c => exact ⟨_, rfl, tableSound_ite (fun _ => (htaken _).giveBackCradle c) fun _ => hs⟩
  | claimOutcome _ _ => exact ⟨_, rfl, tableSound_ite (fun _ => (htaken _).takeClaimOutcome _ _) fun _ => hs⟩
  | passRequest => exact ⟨_, rfl, tableSound_ite (fun _ => (htaken _).runPass) fun _ => hs⟩
  | holdAssertion =>
    have hnotified : ((s.takeHold true).handAll (holdNotices true)).tableSound := hs
    exact ⟨_, rfl, tableSound_ite (fun _ => tableSound_ite (fun _ => hnotified.giveBackAll .hold) fun _ => hs)
      fun _ => hs⟩
  | claimEngineCarrierArrival _ | holdRelease | yieldRequest _ _ | yieldOutcome _ _ _ =>
    exact ⟨_, rfl, hs.of_table (by (repeat' split) <;> simp)⟩
  -- the cradles, the release unit, the tie port and the status port
  | win _ | returnCount _ | miss _ | place _ | cradleCarrierArrival _ | closeLot _ | clear _
  | clearNoticeRelease _ | tieResult _ _ | uncertainMark _ | pulseEndExpiry | holdNoticeTiePort _ | queueNotice
  | recordShifted | ackLimitExpiry | tieLimitExpiry | statusWordComplete _ | snapshot | sselRelease
  | lampFlashToggle => exact ⟨_, rfl, hs.of_table (by simp)⟩
  | ackPress => exact ⟨_, rfl, tableSound_ite (fun _ => hs) fun _ => hs⟩
  | releaseHandover _ _ _ | releaseCarrierStep _ | flapSettleExpiry | delayExpiry | confirmationWindowExpiry | tackEdge
  | tdoneEdge => exact ⟨_, rfl, hs.of_table (by (repeat' split) <;> simp)⟩
  | holdNoticeCradle _ | holdNoticeReleaseUnit _ =>
    exact ⟨_, rfl, hs.of_table (by dsimp only; (repeat' split) <;> simp)⟩

/-- Settles O41: an entry joins only a table with none for its slot, a record only a list with room and none for its
lot. -/
theorem flightTableKeepsSlotsApart : Obligations.FlightTableKeepsSlotsApart := by
  refine keptByEveryStep_of_exec_of_tick (fun s p hs => hs) (fun c s t hs hexec => ?_)
    fun s hs => hs.of_table (t := s.tick) rfl
  obtain ⟨u, hu, hsound⟩ := exec_tableSound c hs
  cases hexec.symm.trans hu
  exact hsound

end Sys2Proof.Machine
end


section
namespace Sys2Proof.Machine

variable {s t : State}

/-! ### The entry for a slot -/

theorem State.entry?_slot {slot : Slot} {e : FlightEntry} (h : s.entry? slot = some e) : e.slot = slot := by
  simpa using List.find?_some h

/-! ### Outcomes of CLAIMs (R76) -/

/-- R74: a withdrawal whose target leaves the entry in the table. -/
theorem State.withdrawNow_eq {target : WithdrawalTarget} {st : EntryState} (h : target.entryState = some st)
    (slot : Slot) (c : CradleId) : s.withdrawNow slot c target
      = ((s.setEntry slot st).hand (.returnCount c)).bump .claimsWithdrawn := by
  cases target <;> cases h <;> rfl

/-- The target of the withdrawal that an outcome of its CLAIM brings, if it brings one (R76). -/
def outcomeTarget : FrameOutcome → Option WithdrawalTarget
  | .spoiled => some .released
  | .expired => some .unclaimed
  | .evicted => some .unclaimed
  | .refused => some .unclaimed
  | .removed => some .unclaimed
  | .sent => none
  | .dropped => none
  | .discarded => none

theorem State.takeClaimOutcome_tentative {slot : Slot} {e : FlightEntry} {c : CradleId} {y : Option YieldReason}
    {a : Option Withdrawal} (he : s.entry? slot = some e) (hst : e.state = .tentative c y a) (o : FrameOutcome) :
    s.takeClaimOutcome slot o = (outcomeTarget o).elim s (s.withdrawNow slot c) := by
  unfold State.takeClaimOutcome
  rw [he]
  dsimp only
  rw [hst]
  cases o <;> rfl

theorem State.takeClaimOutcome_other {slot : Slot}
    (h : ∀ e, s.entry? slot = some e → ∀ c y a, e.state ≠ .tentative c y a) (o : FrameOutcome) :
    s.takeClaimOutcome slot o = s := by
  unfold State.takeClaimOutcome
  split
  · rfl
  · next e he =>
    split
    case h_1 hst => exact absurd hst (h e he _ _ _)
    all_goals rfl

theorem State.takeClaimOutcome_idle (slot : Slot) {o : FrameOutcome} (ho : outcomeTarget o = none) :
    s.takeClaimOutcome slot o = s := by
  by_cases h : ∃ e c y a, s.entry? slot = some e ∧ e.state = .tentative c y a
  · obtain ⟨e, c, y, a, he, hst⟩ := h
    rw [takeClaimOutcome_tentative he hst, ho, Option.elim_none]
  · exact takeClaimOutcome_other (fun e he c y a hst => h ⟨e, c, y, a, he, hst⟩) o

/-- A CLAIM is under way while it is queued, being sent, or its end is still to be taken (log 28). -/
theorem State.claimUnderWay_iff {slot : Slot} : s.claimUnderWay slot = true
    ↔ (∃ q ∈ s.bus.queue, claimSlot q.frame.body = some slot)
      ∨ (∃ f, s.bus.sending = some f ∧ claimSlot f.body = some slot)
      ∨ (∃ i ∈ s.handed, isOwnEnd s.stationId slot i = true) := by
  simp [State.claimUnderWay, State.claimEnding, claimQueued, isClaimFor, Option.any_eq_true, or_assoc]

/-- An outstanding outcome that finds a later CLAIM under way is an older frame's; any other is taken (R76; log 28). -/
theorem exec_claimOutcome (h : s.dropActive) (slot : Slot) (o : FrameOutcome) : exec (.claimOutcome slot o) s
    = .next (if .claimOutcome slot o ∈ s.handed ∧ (s.taken (.claimOutcome slot o)).claimUnderWay slot = true
      then s.taken (.claimOutcome slot o) else (s.taken (.claimOutcome slot o)).takeClaimOutcome slot o) := by
  show Host.Outcome.next _ = _
  have hactive : (s.taken (.claimOutcome slot o)).dropActive := h
  by_cases hold : .claimOutcome slot o ∈ s.handed ∧ (s.taken (.claimOutcome slot o)).claimUnderWay slot = true
  · obtain ⟨hmem, hway⟩ := hold
    simp [hmem, hway]
  · have hfresh : (s.handed.contains (.claimOutcome slot o)
        && (s.taken (.claimOutcome slot o)).claimUnderWay slot) = false := by
      simpa [List.contains_iff_mem] using hold
    rw [if_neg hold, if_pos ⟨hactive, hfresh⟩]

/-- Settles O40: an outcome withdraws the entry by its target, unless it is an older frame's. -/
theorem claimOutcomeWithdrawsTheEntry : Obligations.ClaimOutcomeWithdrawsTheEntry := by
  intro s slot o underWay hrole hmode hway
  replace hway : underWay ↔ (s.taken (.claimOutcome slot o)).claimUnderWay slot = true :=
    hway.trans (State.claimUnderWay_iff (s := s.taken _)).symm
  rw [exec_claimOutcome ⟨hrole, hmode⟩]
  refine ⟨fun h => ?_, fun hmem hold => ?_, fun e c y w target hfresh he hst htarget => ?_⟩
  · have hrests : (s.taken (.claimOutcome slot o)).takeClaimOutcome slot o = s.taken (.claimOutcome slot o) := by
      rcases h with h | rfl | rfl
      · exact State.takeClaimOutcome_other (s := s.taken _) h o
      · exact State.takeClaimOutcome_idle slot rfl
      · exact State.takeClaimOutcome_idle slot rfl
    rw [hrests, ite_self]
    rfl
  · rw [if_pos ⟨hmem, hway.mp hold⟩]
    rfl
  · have hnot : ¬ (.claimOutcome slot o ∈ s.handed ∧ (s.taken (.claimOutcome slot o)).claimUnderWay slot = true) := by
      rw [← hway]
      tauto
    obtain ⟨withdrawal, ho, hstate⟩ : ∃ withdrawal, outcomeTarget o = some withdrawal
        ∧ withdrawal.entryState = some target := by
      rcases htarget with ⟨rfl, rfl⟩ | ⟨rfl | rfl | rfl | rfl, rfl⟩ <;> exact ⟨_, rfl, rfl⟩
    have htaken : (s.taken (.claimOutcome slot o)).entry? slot = some e := he
    rw [if_neg hnot, State.takeClaimOutcome_tentative htaken hst, ho, Option.elim_some,
      State.withdrawNow_eq hstate]
    rfl

end Sys2Proof.Machine
end

section
namespace Sys2Proof.Machine

variable {s t : State}

/-! ### Lists ordered by distance (R67, R80) -/

/-- An element joins after those of its key or less that stand before the first of a greater key. -/
theorem insertByKey_eq_append {α : Type} (key : α → Nat) (x : α) (l : List α) :
    ∃ before after, l = before ++ after ∧ (∀ y ∈ before, key y ≤ key x)
      ∧ (∀ y, after.head? = some y → key x < key y) ∧ insertByKey key x l = before ++ x :: after := by
  induction l with
  | nil => exact ⟨[], [], rfl, by simp, by simp, rfl⟩
  | cons y rest ih =>
    unfold insertByKey
    split
    case isTrue hlt => exact ⟨[], y :: rest, rfl, by simp, by simpa using hlt, rfl⟩
    case isFalse hle =>
      obtain ⟨before, after, rfl, hbefore, hafter, hins⟩ := ih
      exact ⟨y :: before, after, rfl, by simpa using ⟨Nat.le_of_not_lt hle, hbefore⟩, hafter, by rw [hins]; rfl⟩

/-- The first element of the least key is the one found. -/
theorem leastBy_eq_some {α : Type} {key : α → Nat} {x : α} {before after : List α}
    (hbefore : ∀ y ∈ before, key x < key y) (hafter : ∀ y ∈ after, key x ≤ key y) :
    leastBy key (before ++ x :: after) = some x := by
  induction before with
  | nil =>
    cases h : leastBy key after with
    | none => simp [leastBy, h]
    | some y =>
      obtain ⟨first, last, rfl, -⟩ := leastBy_spec key after y h
      have hle : key x ≤ key y := hafter y (by simp)
      simp [leastBy, h, Nat.not_lt.mpr hle]
  | cons y rest ih =>
    obtain ⟨hy, hrest⟩ := List.forall_mem_cons.mp hbefore
    simp [leastBy, ih hrest, hy]

/-! ### Heard STEMs (R69) -/

theorem State.serves_iff {cls : Nat} : s.serves cls = true ↔ ∃ e ∈ s.cfg.services, e.cls = cls := by
  simp [State.serves, State.service?, List.find?_isSome]

/-- The first check of R69: ACTIVE, TRACKING, and a class in the service list. -/
theorem State.judgeStem_ignored {cls : Nat} (slot : Slot) (lotNo : Nat)
    (h : s.loader.mode ≠ .active ∨ s.tracker.state ≠ .tracking ∨ ∀ e ∈ s.cfg.services, e.cls ≠ cls) :
    s.judgeStem slot cls lotNo = s := by
  rcases h with hmode | htracker | hclass
  · simp [State.judgeStem, State.dropActive, hmode]
  · simp [State.judgeStem, htracker]
  · have hserves : s.serves cls = false := Bool.eq_false_iff.mpr fun h =>
      have ⟨e, he, hcls⟩ := State.serves_iff.mp h
      hclass e he hcls
    simp [State.judgeStem, hserves]

/-- The checks of R69 that follow, in order. -/
theorem State.judgeStem_eq (h : s.dropActive) (htracker : s.tracker.state = .tracking) {cls : Nat}
    (hserves : ∃ e ∈ s.cfg.services, e.cls = cls) (slot : Slot) (lotNo : Nat) : s.judgeStem slot cls lotNo
      = if s.rem slot = 0 ∨ s.cfg.depth < s.rem slot then s.bump .lateStems
        else if (s.entry? slot).isSome = true then s.bump .duplicateStems
        else (s.joinEntry ⟨slot, cls, lotNo, .unclaimed⟩).hand .passRequest := by
  simp [State.judgeStem, h, htracker, State.serves_iff.mpr hserves]

/-! ### Heard LOTs (R81) -/

/-- A heard LOT takes the place of the record of its lot. -/
def State.othersOnly (lotNo : Nat) (s : State) : State :=
  { s with table := { s.table with lotCloses := s.table.lotCloses.filter (fun r => r.lot != lotNo) } }

theorem State.judgeLot_unsynced (h : s.tracker.state = .unsynced) (lotNo : Nat) (last : Slot) :
    s.judgeLot lotNo last = s.hand (.closeLot lotNo) := by
  simp [State.judgeLot, h]

theorem State.judgeLot_eq (h : s.tracker.state ≠ .unsynced) (lotNo : Nat) (last : Slot) : s.judgeLot lotNo last
    = if s.rem last = 0 ∨ s.cfg.depth < s.rem last then (s.othersOnly lotNo).hand (.closeLot lotNo)
      else if (s.othersOnly lotNo).table.lotCloses.length < lotCloseCapacity then
        (s.othersOnly lotNo).joinLotClose ⟨lotNo, last⟩
      else (s.othersOnly lotNo).fireNearest.joinLotClose ⟨lotNo, last⟩ :=
  if_neg h

/-- The nearest record, the first of several, fires. -/
theorem State.fireNearest_eq {nearer further : List LotClose} {nearest : LotClose}
    (hsplit : s.table.lotCloses = nearer ++ nearest :: further)
    (hnearer : ∀ x ∈ nearer, s.rem nearest.lastSlot < s.rem x.lastSlot)
    (hfurther : ∀ x ∈ further, s.rem nearest.lastSlot ≤ s.rem x.lastSlot) : s.fireNearest
      = ({ s with table := { s.table with lotCloses := nearer ++ further } }).hand (.closeLot nearest.lot) := by
  have hleast : leastBy (fun r => s.rem r.lastSlot) s.table.lotCloses = some nearest :=
    hsplit ▸ leastBy_eq_some hnearer hfurther
  have hfresh : nearest ∉ nearer := fun h => Nat.lt_irrefl _ (hnearer nearest h)
  have herase : s.table.lotCloses.erase nearest = nearer ++ further := by
    rw [hsplit, List.erase_append_right _ hfresh, List.erase_cons_head]
  simp [State.fireNearest, hleast, herase]

theorem exec_flightTableStem (slot : Slot) (cls lotNo : Nat) : exec (.flightTableStem slot cls lotNo) s
    = .next ((s.taken (.flightTableStem slot cls lotNo)).judgeStem slot cls lotNo) := rfl

theorem exec_flightTableLot (h : s.dropActive) (lotNo : Nat) (last : Slot) : exec (.flightTableLot lotNo last) s
    = .next ((s.taken (.flightTableLot lotNo last)).judgeLot lotNo last) :=
  congrArg Host.Outcome.next (if_pos h)

theorem exec_flightTableLot_inactive (h : s.loader.mode ≠ .active) (lotNo : Nat) (last : Slot) :
    exec (.flightTableLot lotNo last) s = .next (s.taken (.flightTableLot lotNo last)) :=
  congrArg Host.Outcome.next (if_neg fun ha : s.dropActive => h ha.2)

/-- Settles O36: the checks of R69 and of R81 in their order, an element joining at its place by distance. -/
theorem heardStemsAndLotsAreRecorded : Obligations.HeardStemsAndLotsAreRecorded := by
  refine ⟨fun s slot cls lotNo hrole => ⟨fun h => ?_, fun hmode htracker hserves => ?_⟩,
    fun s lotNo last others hrole hothers => ⟨fun h => ?_, fun hmode h => ?_, fun hmode h => ?_⟩⟩
  · rw [exec_flightTableStem, State.judgeStem_ignored (s := s.taken _) slot lotNo h]
    rfl
  · rw [exec_flightTableStem, State.judgeStem_eq (s := s.taken _) ⟨hrole, hmode⟩ htracker hserves slot lotNo]
    have hinside (h1 : 1 ≤ s.rem slot) (h2 : s.rem slot ≤ s.cfg.depth) :
        ¬ (s.rem slot = 0 ∨ s.cfg.depth < s.rem slot) := by omega
    refine ⟨fun hlate => ?_, fun h1 h2 hdup => ?_, fun h1 h2 hnew => ?_⟩
    · exact congrArg Host.Outcome.next (if_pos hlate)
    · exact congrArg Host.Outcome.next
        ((if_neg (hinside h1 h2)).trans (if_pos (State.entry?_isSome_iff.mpr hdup)))
    · obtain ⟨before, after, hsplit, hbefore, hafter, hjoined⟩ := insertByKey_eq_append
        (fun x : FlightEntry => s.rem x.slot) ⟨slot, cls, lotNo, .unclaimed⟩ s.table.entries
      have hfresh : ¬ (s.entry? slot).isSome = true := fun h =>
        have ⟨e, he, hslot⟩ := State.entry?_isSome_iff.mp h
        hnew e he hslot
      refine ⟨before, after, hsplit, hbefore, hafter, congrArg Host.Outcome.next
        ((if_neg (hinside h1 h2)).trans ((if_neg hfresh).trans ?_))⟩
      rw [← hjoined]
      rfl
  · exact exec_flightTableLot_inactive h lotNo last
  · rw [exec_flightTableLot ⟨hrole, hmode⟩, State.judgeLot_unsynced (s := s.taken _) h]
    rfl
  · subst hothers
    rw [exec_flightTableLot ⟨hrole, hmode⟩, State.judgeLot_eq (s := s.taken _) h]
    have hinside (h1 : 1 ≤ s.rem last) (h2 : s.rem last ≤ s.cfg.depth) :
        ¬ (s.rem last = 0 ∨ s.cfg.depth < s.rem last) := by omega
    refine ⟨fun hlate => ?_, fun h1 h2 hroom => ?_,
      fun nearer nearest further h1 h2 hsplit hfull hnearer hfurther => ?_⟩
    · exact congrArg Host.Outcome.next (if_pos hlate)
    · obtain ⟨before, after, hsplit, hbefore, hafter, hjoined⟩ := insertByKey_eq_append
        (fun r : LotClose => s.rem r.lastSlot) ⟨lotNo, last⟩ (s.table.lotCloses.filter (fun r => r.lot != lotNo))
      refine ⟨before, after, hsplit, hbefore, hafter, congrArg Host.Outcome.next
        ((if_neg (hinside h1 h2)).trans ((if_pos hroom).trans ?_))⟩
      rw [← hjoined]
      rfl
    · obtain ⟨before, after, hrest, hbefore, hafter, hjoined⟩ := insertByKey_eq_append
        (fun r : LotClose => s.rem r.lastSlot) ⟨lotNo, last⟩ (nearer ++ further)
      refine ⟨before, after, hrest, hbefore, hafter, congrArg Host.Outcome.next
        ((if_neg (hinside h1 h2)).trans ((if_neg (Nat.not_lt.mpr hfull)).trans ?_))⟩
      rw [State.fireNearest_eq (s := (s.taken (.flightTableLot lotNo last)).othersOnly lotNo) hsplit hnearer hfurther,
        ← hjoined]
      rfl

end Sys2Proof.Machine
end


section
namespace Sys2Proof.Machine

variable {s t : State} {slot : Slot} {e : FlightEntry} {c : CradleId} {y : Option YieldReason} {a : Option Withdrawal}

/-! ### Where a CLAIM stands (R30, R33) -/

theorem sameFrame_claim (slot : Slot) (c : CradleId) (body : FrameBody) :
    sameFrame (.claim slot c) body = (claimSlot body == some slot) := rfl

/-- The queue's answer to a withdrawal, by where the CLAIM stands (log 28). -/
def ClaimPlace.answer : ClaimPlace → RemovalAnswer
  | .queued => .removed
  | .contended => .deferred
  | .transmitted => .inTransmission
  | .ended => .notQueued

/-- The state once the CLAIM for a slot has been asked for. -/
def State.claimAsked (slot : Slot) (c : CradleId) (s : State) : State := (s.requestRemoval (.claim slot c)).2

theorem State.answerFor_claim (s : State) (slot : Slot) (c : CradleId) :
    (s.claimAsked slot c).answerFor slot (s.bus.removalAnswerNow (.claim slot c)) = (s.claimPlace slot).answer := by
  have hending : (s.claimAsked slot c).claimEnding slot = s.handed.any (isOwnEnd s.stationId slot) := rfl
  have hanswer : s.bus.removalAnswerNow (.claim slot c)
      = match s.bus.queue.find? (fun q => claimSlot q.frame.body == some slot) with
        | some q => if q.contended = true then .deferred else .removed
        | none => if s.bus.sending.any (fun f => claimSlot f.body == some slot) = true then .inTransmission
          else .notQueued := rfl
  rw [State.claimPlace, hanswer]
  cases s.bus.queue.find? (fun q => claimSlot q.frame.body == some slot) with
  | some q => cases hc : q.contended <;> simp [hc, ClaimPlace.answer]
  | none =>
    cases hsending : s.bus.sending.any (fun f => claimSlot f.body == some slot) with
    | true => simp [ClaimPlace.answer]
    | false => cases hend : s.handed.any (isOwnEnd s.stationId slot) <;> simp [hending, hend, ClaimPlace.answer]

theorem State.claimPlace_queued {before after : List QueuedFrame} {q : QueuedFrame}
    (hqueue : s.bus.queue = before ++ q :: after) (hq : claimSlot q.frame.body = some slot) (hc : q.contended = false)
    (hb : ∀ x ∈ before, claimSlot x.frame.body ≠ some slot) : s.claimPlace slot = .queued := by
  have hnone : before.find? (fun x => claimSlot x.frame.body == some slot) = none := by simpa using hb
  simp [State.claimPlace, hqueue, List.find?_append, hnone, hq, hc]

theorem State.claimPlace_sending {f : Frame} (hqueue : ∀ q ∈ s.bus.queue, claimSlot q.frame.body ≠ some slot)
    (hf : s.bus.sending = some f) (hclaim : claimSlot f.body = some slot) : s.claimPlace slot = .transmitted := by
  have hnone : s.bus.queue.find? (fun x => claimSlot x.frame.body == some slot) = none := by simpa using hqueue
  simp [State.claimPlace, hnone, hf, hclaim]

/-! ### A CLAIM asked for (R33) -/

/-- A request that finds its CLAIM queued takes it out. -/
theorem State.claimAsked_queued (c : CradleId) {before after : List QueuedFrame} {q : QueuedFrame}
    (hqueue : s.bus.queue = before ++ q :: after) (hq : claimSlot q.frame.body = some slot) (hc : q.contended = false)
    (hb : ∀ x ∈ before, claimSlot x.frame.body ≠ some slot) : s.claimAsked slot c = { s with bus := { s.bus with
      queue := before ++ after, removalAnswer := some ⟨.claim slot c, .removed⟩ } } := by
  have hsame : sameFrame (.claim slot c) q.frame.body = true := by simp [sameFrame_claim, hq]
  have hothers : ∀ x ∈ before, sameFrame (.claim slot c) x.frame.body = false := fun x hx => by
    simpa [sameFrame_claim] using hb x hx
  have hanswer : s.bus.removalAnswerNow (.claim slot c) = .removed := by
    simp [LineBus.removalAnswerNow, hqueue, find?_sameFrame hsame hothers, hc]
  simp [State.claimAsked, State.requestRemoval, hanswer, LineBus.takeRemoval, hqueue, eraseP_sameFrame hsame hothers]

/-- A request that finds its CLAIM being contended is held by it, unless it holds an earlier event. -/
theorem State.claimAsked_contended (c : CradleId) {before after : List QueuedFrame} {q : QueuedFrame}
    (hqueue : s.bus.queue = before ++ q :: after) (hq : claimSlot q.frame.body = some slot) (hc : q.contended = true)
    (hb : ∀ x ∈ before, claimSlot x.frame.body ≠ some slot) (ha : ∀ x ∈ after, claimSlot x.frame.body ≠ some slot) :
    (s.claimAsked slot c).bus.queue = before ++ { q with heldEvent := some (q.heldEvent.getD .removed) } :: after := by
  have hsame : sameFrame (.claim slot c) q.frame.body = true := by simp [sameFrame_claim, hq]
  have hothers (l : List QueuedFrame) (hl : ∀ x ∈ l, claimSlot x.frame.body ≠ some slot) :
      ∀ x ∈ l, sameFrame (.claim slot c) x.frame.body = false := fun x hx => by
    simpa [sameFrame_claim] using hl x hx
  have hkeep (l : List QueuedFrame) (hl : ∀ x ∈ l, claimSlot x.frame.body ≠ some slot) :
      l.map (holdRemoval (.claim slot c)) = l :=
    (List.map_congr_left fun x hx => by simp [holdRemoval, hothers l hl x hx]).trans (List.map_id' l)
  have hanswer : s.bus.removalAnswerNow (.claim slot c) = .deferred := by
    simp [LineBus.removalAnswerNow, hqueue, find?_sameFrame hsame (hothers before hb), hc]
  simp [State.claimAsked, State.requestRemoval, hanswer, LineBus.takeRemoval, hqueue, hkeep before hb, hkeep after ha,
    holdRemoval, hsame, hc]

/-- A request that finds its CLAIM in transmission leaves the queue. -/
theorem State.claimAsked_queue (c : CradleId) (hqueue : ∀ q ∈ s.bus.queue, claimSlot q.frame.body ≠ some slot) :
    (s.claimAsked slot c).bus.queue = s.bus.queue := by
  have hnone : s.bus.queue.find? (fun q => sameFrame (.claim slot c) q.frame.body) = none := by
    simpa [sameFrame_claim] using hqueue
  simp only [State.claimAsked, State.requestRemoval, LineBus.removalAnswerNow, hnone]
  split <;> rfl

/-! ### A withdrawal, by where its CLAIM stands (R74) -/

theorem mergeWithdrawal_eq (reason : Option YieldReason) (a : Option Withdrawal) :
    mergeWithdrawal ⟨.unclaimed, reason⟩ a = waitingWithdrawal reason a := by
  cases a with
  | none => rfl
  | some first => simp [mergeWithdrawal, waitingWithdrawal, laterReason_eq_or]

/-- An entry that leaves the table is withdrawn at once, wherever its CLAIM stands (R77, R79). -/
theorem State.withdraw_removal (he : s.entry? slot = some e) (hst : e.state = .tentative c y a)
    (reason : Option YieldReason) :
    s.withdraw slot ⟨.removal, reason⟩ = (s.claimAsked slot c).withdrawNow slot c .removal := by
  simp [State.withdraw, he, hst, State.claimAsked]

/-- What a withdrawal that leaves its entry in the table does, by the queue's answer. -/
theorem State.withdraw_eq (he : s.entry? slot = some e) (hst : e.state = .tentative c y a) {w : Withdrawal}
    (hw : w.target ≠ .removal) : s.withdraw slot w = match s.claimPlace slot with
      | .queued => (s.claimAsked slot c).withdrawNow slot c w.target
      | .ended => (s.claimAsked slot c).withdrawNow slot c w.target
      | .transmitted => (s.claimAsked slot c).setEntry slot (.tentative c (w.reason.or y) a)
      | .contended => (s.claimAsked slot c).setEntry slot (.tentative c y (some (mergeWithdrawal w a))) := by
  have hasked : s.requestRemoval (.claim slot c) = (s.bus.removalAnswerNow (.claim slot c), s.claimAsked slot c) := rfl
  unfold State.withdraw
  rw [he]
  dsimp only
  rw [hst]
  dsimp only
  rw [hasked, ← laterReason_eq_or]
  dsimp only
  rw [if_neg hw, s.answerFor_claim slot c]
  cases s.claimPlace slot <;> rfl

/-! ### Heard CLAIMs and YIELDs (R70, R71) -/

theorem exec_flightTableClaim (h : s.dropActive) (slot : Slot) (cradle : CradleId) (sender : Nat) :
    exec (.flightTableClaim slot cradle sender) s
      = .next ((s.taken (.flightTableClaim slot cradle sender)).judgeClaim slot sender) :=
  congrArg Host.Outcome.next (if_pos h)

theorem exec_flightTableYield (h : s.dropActive) (slot : Slot) (reason : YieldReason) (sender : Nat) :
    exec (.flightTableYield slot reason sender) s
      = .next ((s.taken (.flightTableYield slot reason sender)).judgeYield slot sender) :=
  congrArg Host.Outcome.next (if_pos h)

theorem State.judgeClaim_absent (he : s.entry? slot = none) (sender : Nat) : s.judgeClaim slot sender = s := by
  simp [State.judgeClaim, he]

theorem State.judgeClaim_peer (he : s.entry? slot = some e) {sender : Nat} (h : sender ≠ s.stationId) :
    s.judgeClaim slot sender = s.peerClaim slot sender e.state := by
  simp [State.judgeClaim, he, h]

theorem State.judgeClaim_own (he : s.entry? slot = some e) {sender : Nat} (h : sender = s.stationId) :
    s.judgeClaim slot sender = s.ownClaim slot e.state := by
  simp [State.judgeClaim, he, h]

/-- The conflicts of R70. -/
theorem State.judgeClaim_conflict (he : s.entry? slot = some e) {sender : Nat}
    (h : (∃ z, e.state = .other z) ∨ (sender ≠ s.stationId ∧ ∃ c, e.state = .mine c)
      ∨ (sender = s.stationId ∧ (e.state = .unclaimed ∨ e.state = .yielded ∨ e.state = .released
        ∨ ∃ c, e.state = .mine c))) : s.judgeClaim slot sender = s.bump .conflicts := by
  rcases h with ⟨z, hst⟩ | ⟨hpeer, c, hst⟩ | ⟨hown, hst | hst | hst | ⟨c, hst⟩⟩
  · by_cases hown : sender = s.stationId
    · rw [judgeClaim_own he hown, hst]
      rfl
    · rw [judgeClaim_peer he hown, hst]
      rfl
  · rw [judgeClaim_peer he hpeer, hst]
    rfl
  all_goals
    rw [judgeClaim_own he hown, hst]
    rfl

theorem State.yieldEntry_other (he : s.entry? slot = some e) {claimant : Nat} (hst : e.state = .other claimant)
    (sender : Nat) : s.yieldEntry slot sender
      = if claimant = sender then (s.setEntry slot .yielded).hand .passRequest else s.bump .conflicts := by
  simp [State.yieldEntry, he, hst]

theorem State.yieldEntry_rests (h : ∀ e, s.entry? slot = some e → ∀ z, e.state ≠ .other z) (sender : Nat) :
    s.yieldEntry slot sender = s := by
  unfold State.yieldEntry
  split
  · rfl
  · next e he =>
    split
    case h_1 hst => exact absurd hst (h e he _)
    all_goals rfl

/-- R74: a peer's CLAIM takes a queued CLAIM out of the queue and withdraws the entry at once. -/
theorem State.peerClaim_queued (he : s.entry? slot = some e) (hst : e.state = .tentative c y a) (sender : Nat)
    {before after : List QueuedFrame} {q : QueuedFrame} (hqueue : s.bus.queue = before ++ q :: after)
    (hq : claimSlot q.frame.body = some slot) (hc : q.contended = false)
    (hb : ∀ x ∈ before, claimSlot x.frame.body ≠ some slot) : s.peerClaim slot sender e.state
      = (({ s with bus := { s.bus with
          queue := before ++ after, removalAnswer := some ⟨.claim slot c, .removed⟩ } }.setEntry slot
            (.other sender)).hand (.returnCount c)).bump .claimsWithdrawn := by
  have hwithdrawn := s.withdraw_eq he hst (w := ⟨.other sender, none⟩) (by simp)
  rw [State.claimPlace_queued hqueue hq hc hb] at hwithdrawn
  rw [hst]
  exact hwithdrawn.trans ((State.withdrawNow_eq rfl slot c).trans (by rw [State.claimAsked_queued c hqueue hq hc hb]))

/-- R74: a peer's CLAIM waits on a CLAIM in transmission. -/
theorem State.peerClaim_sending (he : s.entry? slot = some e) (hst : e.state = .tentative c y a) (sender : Nat)
    {f : Frame} (hqueue : ∀ q ∈ s.bus.queue, claimSlot q.frame.body ≠ some slot) (hf : s.bus.sending = some f)
    (hclaim : claimSlot f.body = some slot) :
    s.peerClaim slot sender e.state = (s.claimAsked slot c).setEntry slot (.tentative c y a) := by
  have hwithdrawn := s.withdraw_eq he hst (w := ⟨.other sender, none⟩) (by simp)
  rw [State.claimPlace_sending hqueue hf hclaim] at hwithdrawn
  rw [hst]
  exact hwithdrawn

@[simp] theorem State.setEntry_setEntry (slot : Slot) (st st' : EntryState) :
    (s.setEntry slot st).setEntry slot st' = s.setEntry slot st' := by
  simp only [State.setEntry, List.map_map]
  congr 2
  refine List.map_congr_left fun x _ => ?_
  simp only [Function.comp]
  split <;> simp_all

/-- R70, R74: a claim won with a pending yield is yielded at once. -/
theorem State.ownClaim_yields (slot : Slot) (c : CradleId) (reason : YieldReason) (a : Option Withdrawal) :
    s.ownClaim slot (.tentative c (some reason) a)
      = ((s.setEntry slot .released).handAll [.win c, .miss c, .yieldRequest slot reason]).bump .claimsWon := by
  have hreleased : (((s.setEntry slot (.mine c)).hand (.win c)).bump .claimsWon).setEntry slot .released
      = (((s.setEntry slot (.mine c)).setEntry slot .released).hand (.win c)).bump .claimsWon := rfl
  rw [State.ownClaim, State.yieldMine, hreleased, State.setEntry_setEntry]
  simp [State.hand, State.handAll, State.bump]

/-- Settles O37: the rows of R70 and R71, by the entry's state and the sender. -/
theorem heardClaimsAndYieldsMoveEntries : Obligations.HeardClaimsAndYieldsMoveEntries := by
  intro s slot cradle reason sender hrole hmode
  have hactive : s.dropActive := ⟨hrole, hmode⟩
  rw [exec_flightTableClaim hactive, exec_flightTableYield hactive]
  refine ⟨fun he => ?_, fun e he => ⟨fun hpeer hst => ?_, fun c y w before q after hpeer hst hqueue hq hc hb => ?_,
    fun c y w f hpeer hst hqueue hf hclaim => ?_, fun c w hown hst => ?_, fun c y w hown hst => ?_, fun h => ?_,
    fun hpeer hst => ?_⟩, fun base hbase => ?_⟩
  · rw [State.judgeClaim_absent (s := s.taken _) he]
    rfl
  · rw [State.judgeClaim_peer (s := s.taken _) he hpeer]
    rcases hst with hst | hst <;> rw [hst] <;> rfl
  · rw [State.judgeClaim_peer (s := s.taken _) he hpeer,
      State.peerClaim_queued (s := s.taken _) he hst sender hqueue hq hc hb]
    rfl
  · rw [State.judgeClaim_peer (s := s.taken _) he hpeer,
      State.peerClaim_sending (s := s.taken _) he hst sender hqueue hf hclaim]
    exact ⟨_, rfl, rfl, rfl, rfl, State.claimAsked_queue (s := s.taken _) c hqueue⟩
  · rw [State.judgeClaim_own (s := s.taken _) he hown, hst]
    rfl
  · rw [State.judgeClaim_own (s := s.taken _) he hown, hst]
    refine ⟨_, rfl, ?_⟩
    rw [State.ownClaim_yields]
    exact ⟨rfl, rfl, State.bump_counter_self _ _, rfl⟩
  · rw [State.judgeClaim_conflict (s := s.taken _) he h]
    rfl
  · rw [State.judgeClaim_peer (s := s.taken _) he hpeer, hst]
    rfl
  · have hjudged : (s.taken (.flightTableYield slot reason sender)).judgeYield slot sender
        = base.yieldEntry slot sender := by rw [hbase]; rfl
    have htable : base.table = s.table := by rw [hbase]; split <;> rfl
    have hentry : base.entry? slot = s.entry? slot := by rw [State.entry?, htable]; rfl
    rw [hjudged]
    refine ⟨fun e he hst => ?_, fun e z he hst hz => ?_, fun h => ?_⟩
    · rw [State.yieldEntry_other (hentry.trans he) hst, if_pos rfl, State.setEntry, htable]
      rfl
    · rw [State.yieldEntry_other (hentry.trans he) hst, if_neg hz]
    · rw [State.yieldEntry_rests (hentry ▸ h)]

end Sys2Proof.Machine
end


section
namespace Sys2Proof.Machine

variable {s t : State}

/-! ### CLAIMs asked out of the queue (R30, R33) -/

/-- A walk that drops elements and changes others, but not the part of them that `g` reads. -/
theorem map_filterMap_sublist {α β : Type} {f : α → Option α} {g : α → β} (h : ∀ x y, f x = some y → g y = g x)
    (l : List α) : ((l.filterMap f).map g).Sublist (l.map g) := by
  induction l with
  | nil => exact .slnil
  | cons x rest ih =>
    cases hx : f x with
    | none => rw [List.filterMap_cons_none hx]; exact ih.cons _
    | some y => rw [List.filterMap_cons_some hx, List.map_cons, List.map_cons, h x y hx]; exact ih.cons_cons _

/-- What asking for the CLAIMs of some slots leaves of one queued frame. -/
def QueuedFrame.asked (slots : List Slot) (q : QueuedFrame) : Option QueuedFrame :=
  if slots.any (fun slot => claimSlot q.frame.body == some slot) = true then
    if q.contended = true then some { q with heldEvent := some (q.heldEvent.getD .removed) } else none
  else some q

theorem QueuedFrame.asked_frame {slots : List Slot} {q x : QueuedFrame} (h : q.asked slots = some x) :
    x.frame = q.frame := by
  unfold QueuedFrame.asked at h
  split_ifs at h <;> cases h <;> rfl

theorem QueuedFrame.asked_of_not_claimed {slots : List Slot} {q : QueuedFrame}
    (h : ∀ slot ∈ slots, claimSlot q.frame.body ≠ some slot) : q.asked slots = some q :=
  if_neg (by simpa using h)

theorem removeClaims_eq_filterMap (slots : List Slot) (queue : List QueuedFrame) :
    removeClaims slots queue = queue.filterMap (QueuedFrame.asked slots) := by
  rw [removeClaims, ← List.filterMap_eq_filter, ← List.filterMap_eq_map, List.filterMap_filterMap]
  congr 1
  funext q
  unfold QueuedFrame.asked
  cases hc : q.contended <;> cases hany : slots.any (fun slot => claimSlot q.frame.body == some slot) <;>
    simp only [Option.guard, hc, hany, Bool.or_true, Bool.or_false, Bool.not_true, Bool.not_false, if_true,
      Option.bind_some, Option.bind_none, Function.comp, Bool.false_eq_true, if_false, Bool.or_self]

/-- Only the slots asked for matter, not their order. -/
theorem removeClaims_congr {slots slots' : List Slot} (h : ∀ slot, slot ∈ slots ↔ slot ∈ slots')
    (queue : List QueuedFrame) : removeClaims slots queue = removeClaims slots' queue := by
  have hany (body : FrameBody) : slots.any (fun slot => claimSlot body == some slot)
      = slots'.any (fun slot => claimSlot body == some slot) := by
    rw [Bool.eq_iff_iff, List.any_eq_true, List.any_eq_true]
    simp only [h]
  simp only [removeClaims, hany]

theorem removeClaims_of_not_claimed {slots : List Slot} {queue : List QueuedFrame}
    (h : ∀ q ∈ queue, ∀ slot ∈ slots, claimSlot q.frame.body ≠ some slot) : removeClaims slots queue = queue := by
  rw [removeClaims_eq_filterMap]
  exact (List.filterMap_congr fun q hq => QueuedFrame.asked_of_not_claimed (h q hq)).trans List.filterMap_some

theorem removeClaims_nil (queue : List QueuedFrame) : removeClaims [] queue = queue :=
  removeClaims_of_not_claimed (by simp)

/-- Asking for some CLAIMs and then for others is asking for all of them. -/
theorem removeClaims_removeClaims (first later : List Slot) (queue : List QueuedFrame) :
    removeClaims later (removeClaims first queue) = removeClaims (first ++ later) queue := by
  simp only [removeClaims_eq_filterMap, List.filterMap_filterMap]
  congr 1
  funext q
  unfold QueuedFrame.asked
  rw [List.any_append]
  cases hf : first.any (fun slot => claimSlot q.frame.body == some slot) with
  | false => rfl
  | true =>
    cases hc : q.contended with
    | false => rfl
    | true => cases hl : later.any (fun slot => claimSlot q.frame.body == some slot) <;> simp_all

theorem removeClaims_frames (slots : List Slot) (queue : List QueuedFrame) :
    ((removeClaims slots queue).map (fun q => q.frame)).Sublist (queue.map (fun q => q.frame)) := by
  rw [removeClaims_eq_filterMap]
  exact map_filterMap_sublist (fun _ _ => QueuedFrame.asked_frame) queue

/-- What is asked for leaves the CLAIM of every other slot as it was. -/
theorem find?_removeClaims {slots : List Slot} {slot : Slot} (h : slot ∉ slots) (queue : List QueuedFrame) :
    (removeClaims slots queue).find? (fun q => claimSlot q.frame.body == some slot)
      = queue.find? (fun q => claimSlot q.frame.body == some slot) := by
  rw [removeClaims_eq_filterMap]
  induction queue with
  | nil => rfl
  | cons q rest ih =>
    by_cases hq : claimSlot q.frame.body = some slot
    · have hkept : q.asked slots = some q := QueuedFrame.asked_of_not_claimed fun x hx hclaim => by
        rw [hq, Option.some_inj] at hclaim
        exact h (hclaim ▸ hx)
      simp [List.filterMap_cons_some hkept, hq]
    · cases hasked : q.asked slots with
      | none => simp [List.filterMap_cons_none hasked, hq, ih]
      | some x => simp [List.filterMap_cons_some hasked, QueuedFrame.asked_frame hasked, hq, ih]

/-- R30: a sound queue holds at most one CLAIM for a slot. -/
theorem State.queueSound.claim_split (hs : s.queueSound) (slot : Slot) :
    (∀ q ∈ s.bus.queue, claimSlot q.frame.body ≠ some slot)
    ∨ ∃ before q after, s.bus.queue = before ++ q :: after ∧ claimSlot q.frame.body = some slot
      ∧ (∀ x ∈ before, claimSlot x.frame.body ≠ some slot) ∧ (∀ x ∈ after, claimSlot x.frame.body ≠ some slot) := by
  obtain ⟨-, -, hnodup⟩ := hs
  cases h : s.bus.queue.find? (fun q => claimSlot q.frame.body == some slot) with
  | none => exact .inl (by simpa using h)
  | some q =>
    obtain ⟨hq, before, after, hsplit, hbefore⟩ := List.find?_eq_some_iff_append.mp h
    replace hq : claimSlot q.frame.body = some slot := by simpa using hq
    rw [hsplit, List.filterMap_append,
      List.filterMap_cons_some (f := fun x : QueuedFrame => claimSlot x.frame.body) hq] at hnodup
    obtain ⟨-, hlater, -⟩ := List.nodup_append.mp hnodup
    obtain ⟨hrest, -⟩ := List.nodup_cons.mp hlater
    refine .inr ⟨before, q, after, hsplit, hq, by simpa using hbefore, fun x hx hclaim => hrest ?_⟩
    exact List.mem_filterMap.mpr ⟨x, hx, hclaim⟩

/-- R30, R33: asking for the CLAIM of a slot. -/
theorem State.queueSound.claimAsked_bus (hs : s.queueSound) (slot : Slot) (c : CradleId) :
    (s.claimAsked slot c).bus = { s.bus with
      queue := removeClaims [slot] s.bus.queue
      removalHeld := (s.claimAsked slot c).bus.removalHeld
      removalAnswer := (s.claimAsked slot c).bus.removalAnswer } := by
  have hbus : (s.claimAsked slot c).bus = { s.bus with
      queue := (s.claimAsked slot c).bus.queue
      removalHeld := (s.claimAsked slot c).bus.removalHeld
      removalAnswer := (s.claimAsked slot c).bus.removalAnswer } := by
    simp only [State.claimAsked, State.requestRemoval]
    cases s.bus.removalAnswerNow (.claim slot c) <;> rfl
  have hrests (l : List QueuedFrame) (hl : ∀ x ∈ l, claimSlot x.frame.body ≠ some slot) : removeClaims [slot] l = l :=
    removeClaims_of_not_claimed (by simpa using hl)
  rw [hbus]
  rcases hs.claim_split slot with hnone | ⟨before, q, after, hsplit, hq, hbefore, hafter⟩
  · rw [State.claimAsked_queue c hnone, hrests _ hnone]
  · have hremoved : removeClaims [slot] s.bus.queue = before ++ (q.asked [slot]).toList ++ after := by
      have hb := hrests before hbefore
      have ha := hrests after hafter
      rw [removeClaims_eq_filterMap] at hb ha ⊢
      rw [hsplit, List.filterMap_append, List.filterMap_cons, hb, ha]
      cases q.asked [slot] <;> simp
    cases hc : q.contended with
    | false => rw [State.claimAsked_queued c hsplit hq hc hbefore, hremoved]; simp [QueuedFrame.asked, hc, hq]
    | true => rw [State.claimAsked_contended c hsplit hq hc hbefore hafter, hremoved]; simp [QueuedFrame.asked, hc, hq]

end Sys2Proof.Machine
end


section
namespace Sys2Proof.Machine

variable {s t u : State} {slots slots' : List Slot} {operations operations' : List Instr} {n n' : Nat}

/-! ### What letting go of entries leaves of the rest of the state -/

/-- No CLAIM's end on the line is among some operations (log 28). -/
def NoOwnEnd (operations : List Instr) : Prop := ∀ i ∈ operations, ∀ id slot, isOwnEnd id slot i = false

/-- What letting go of entries leaves of all but the entries: the CLAIMs of some slots have been asked for, operations
handed over, and claims counted as withdrawn (R73, R74, R75). -/
structure State.LetsGo (s : State) (slots : List Slot) (operations : List Instr) (n : Nat) (t : State) : Prop where
  frame : t = { s with bus := t.bus, table := t.table, handed := t.handed, status := t.status }
  bus : t.bus = { s.bus with
    queue := removeClaims slots s.bus.queue, removalHeld := t.bus.removalHeld, removalAnswer := t.bus.removalAnswer }
  lotCloses : t.table.lotCloses = s.table.lotCloses
  handed : t.handed = s.handed ++ operations
  noOwnEnd : NoOwnEnd operations
  withdrawn : t.counter .claimsWithdrawn = countUp^[n] (s.counter .claimsWithdrawn)
  counter : ∀ m, m ≠ .claimsWithdrawn → t.counter m = s.counter m
  status : t.status = { s.status with counters := t.status.counters }

namespace State.LetsGo

theorem trans (hst : s.LetsGo slots operations n t) (htu : t.LetsGo slots' operations' n' u) :
    s.LetsGo (slots ++ slots') (operations ++ operations') (n' + n) u where
  frame := by rw [htu.frame, hst.frame]
  bus := by rw [htu.bus, hst.bus, removeClaims_removeClaims]
  lotCloses := htu.lotCloses.trans hst.lotCloses
  handed := by rw [htu.handed, hst.handed, List.append_assoc]
  noOwnEnd i hi := (List.mem_append.mp hi).elim (hst.noOwnEnd i) (htu.noOwnEnd i)
  withdrawn := by rw [htu.withdrawn, hst.withdrawn, Function.iterate_add_apply]
  counter m hm := (htu.counter m hm).trans (hst.counter m hm)
  status := by rw [htu.status, hst.status]

/-- A change of the entries alone. -/
theorem of_entries (s : State) (entries : List FlightEntry) :
    s.LetsGo [] [] 0 { s with table := { s.table with entries := entries } } where
  frame := rfl
  bus := by rw [removeClaims_nil]
  lotCloses := rfl
  handed := (List.append_nil _).symm
  noOwnEnd := by simp [NoOwnEnd]
  withdrawn := rfl
  counter _ _ := rfl
  status := rfl

theorem refl (s : State) : s.LetsGo [] [] 0 s := of_entries s s.table.entries

theorem handAll (s : State) (h : NoOwnEnd operations) : s.LetsGo [] operations 0 (s.handAll operations) where
  frame := rfl
  bus := by rw [removeClaims_nil]; rfl
  lotCloses := rfl
  handed := rfl
  noOwnEnd := h
  withdrawn := rfl
  counter _ _ := rfl
  status := rfl

theorem countWithdrawn (s : State) : s.LetsGo [] [] 1 (s.bump .claimsWithdrawn) where
  frame := rfl
  bus := by rw [removeClaims_nil]; rfl
  lotCloses := rfl
  handed := (List.append_nil _).symm
  noOwnEnd := by simp [NoOwnEnd]
  withdrawn := s.bump_counter_self _
  counter _ hm := s.bump_counter_other hm
  status := rfl

/-- R33: the CLAIM of a slot asked for. -/
theorem claimAsked (hs : s.queueSound) (slot : Slot) (c : CradleId) :
    s.LetsGo [slot] [] 0 (s.claimAsked slot c) where
  frame := rfl
  bus := hs.claimAsked_bus slot c
  lotCloses := rfl
  handed := (List.append_nil _).symm
  noOwnEnd := by simp [NoOwnEnd]
  withdrawn := rfl
  counter _ _ := rfl
  status := rfl

/-- R74: a withdrawal carried out. -/
theorem withdrawNow (s : State) (slot : Slot) (c : CradleId) (target : WithdrawalTarget) :
    s.LetsGo [] [.returnCount c] 1 (s.withdrawNow slot c target) := by
  have hreturned (t : State) : t.LetsGo [] [.returnCount c] 1 ((t.hand (.returnCount c)).bump .claimsWithdrawn) :=
    (handAll t (operations := [.returnCount c]) (by simp [NoOwnEnd, isOwnEnd])).trans (countWithdrawn _)
  cases target <;> exact (of_entries s _).trans (hreturned _)

theorem loader (h : s.LetsGo slots operations n t) : t.loader = s.loader := by rw [h.frame]

theorem cfg (h : s.LetsGo slots operations n t) : t.cfg = s.cfg := State.cfg_of_record_eq (by rw [h.loader])

theorem queueSound (h : s.LetsGo slots operations n t) (hs : s.queueSound) : t.queueSound := by
  refine hs.of_sublist ?_
  rw [LineBus.frames, h.bus]
  exact removeClaims_frames slots s.bus.queue

/-- A CLAIM that was not asked for stands where it stood. -/
theorem claimPlace (h : s.LetsGo slots operations n t) {slot : Slot} (hslot : slot ∉ slots) :
    t.claimPlace slot = s.claimPlace slot := by
  have hid : t.stationId = s.stationId := State.stationId_of_loader h.loader
  have hends : operations.any (isOwnEnd s.stationId slot) = false :=
    List.any_eq_false.mpr fun i hi => by simp [h.noOwnEnd i hi]
  rw [State.claimPlace, h.bus, find?_removeClaims hslot, hid, h.handed, List.any_append, hends, Bool.or_false]
  rfl

end State.LetsGo

/-- Another state in which every CLAIM stands where it stood. -/
theorem State.claimPlace_congr (hbus : t.bus = s.bus) (hloader : t.loader = s.loader) {slot : Slot}
    (hends : t.handed.any (isOwnEnd s.stationId slot) = s.handed.any (isOwnEnd s.stationId slot)) :
    t.claimPlace slot = s.claimPlace slot := by
  rw [State.claimPlace, hbus, State.stationId_of_loader hloader, hends, State.claimPlace]

end Sys2Proof.Machine
end

section
namespace Sys2Proof.Machine

variable {s t u : State} {e : FlightEntry} {after : Option FlightEntry} {operations : List Instr} {counted : Bool}
  {c : CradleId} {y : Option YieldReason} {a : Option Withdrawal}

/-! ### One entry let go (R74, R75) -/

/-- No slot stands twice in the table, and the queue is in order. -/
structure State.Orderly (s : State) : Prop where
  slots : (s.table.entries.map (fun e => e.slot)).Nodup
  queue : s.queueSound

theorem State.Orderly.eq_of_slot (hs : s.Orderly) {x : FlightEntry} (hx : x ∈ s.table.entries)
    (he : e ∈ s.table.entries) (h : x.slot = e.slot) : x = e :=
  List.inj_on_of_nodup_map hs.slots hx he h

theorem State.Orderly.entry? (hs : s.Orderly) (he : e ∈ s.table.entries) : s.entry? e.slot = some e := by
  obtain ⟨x, hx⟩ := Option.isSome_iff_exists.mp (State.entry?_isSome_iff.mpr ⟨e, he, rfl⟩)
  rw [hx, hs.eq_of_slot (List.mem_of_find?_eq_some hx) he (State.entry?_slot hx)]

/-- A change made to the entry for a slot is made to that one entry. -/
theorem State.Orderly.filterMap_slot (hs : s.Orderly) (he : e ∈ s.table.entries)
    (f : FlightEntry → Option FlightEntry) :
    s.table.entries.filterMap (fun x => if x.slot = e.slot then f x else some x)
      = s.table.entries.filterMap (fun x => if x = e then f e else some x) := by
  refine List.filterMap_congr fun x hx => ?_
  by_cases h : x = e
  · simp [h]
  · rw [if_neg h, if_neg fun hslot => h (hs.eq_of_slot hx he hslot)]

theorem State.Orderly.setEntry_entries (hs : s.Orderly) (he : e ∈ s.table.entries) (st : EntryState) :
    (s.setEntry e.slot st).table.entries
      = s.table.entries.filterMap (fun x => if x = e then some { e with state := st } else some x) := by
  rw [← hs.filterMap_slot he fun x => some { x with state := st }, State.setEntry_table, ← List.filterMap_eq_map']
  refine List.filterMap_congr fun x _ => ?_
  split <;> rfl

theorem State.Orderly.removeEntry_entries (hs : s.Orderly) (he : e ∈ s.table.entries) :
    (s.removeEntry e.slot).table.entries = s.table.entries.filterMap (fun x => if x = e then none else some x) := by
  rw [← hs.filterMap_slot he fun _ => none, State.removeEntry_table, ← List.filterMap_eq_filter]
  refine List.filterMap_congr fun x _ => ?_
  by_cases h : x.slot = e.slot <;> simp [Option.guard, h]

/-- Entries that leave or keep their slots, and CLAIMs asked for, keep a state orderly. -/
theorem State.LetsGo.orderly {slots : List Slot} {n : Nat} (h : s.LetsGo slots operations n t)
    {f : FlightEntry → Option FlightEntry} (hentries : t.table.entries = s.table.entries.filterMap f)
    (hf : ∀ x y, f x = some y → y.slot = x.slot) (hs : s.Orderly) : t.Orderly :=
  ⟨hentries ▸ hs.slots.sublist (map_filterMap_sublist hf _), h.queueSound hs.queue⟩

/-- The slots whose CLAIM is asked for when an entry is let go. -/
def FlightEntry.askedSlots (e : FlightEntry) : List Slot := if e.isTentative = true then [e.slot] else []

theorem FlightEntry.isTentative_iff : e.isTentative = true ↔ ∃ c y a, e.state = .tentative c y a := by
  unfold FlightEntry.isTentative
  split <;> simp_all

theorem FlightEntry.askedSlots_tentative (hst : e.state = .tentative c y a) : e.askedSlots = [e.slot] :=
  if_pos (FlightEntry.isTentative_iff.mpr ⟨c, y, a, hst⟩)

theorem FlightEntry.askedSlots_other (hst : ∀ c y a, e.state ≠ .tentative c y a) : e.askedSlots = [] :=
  if_neg fun h =>
    have ⟨c, y, a, h⟩ := FlightEntry.isTentative_iff.mp h
    hst c y a h

/-- What letting go of one entry leaves: the entry in its place or gone, its CLAIM asked for if it is TENTATIVE. -/
structure State.LetsGoOf (s : State) (e : FlightEntry) (after : Option FlightEntry) (operations : List Instr)
    (counted : Bool) (t : State) : Prop where
  letsGo : s.LetsGo e.askedSlots operations (if counted = true then 1 else 0) t
  entries : t.table.entries = s.table.entries.filterMap (fun x => if x = e then after else some x)

/-- An entry that stays as it is. -/
theorem State.letsGoOf_refl (hst : ∀ c y a, e.state ≠ .tentative c y a) : s.LetsGoOf e (some e) [] false s where
  letsGo := by
    rw [FlightEntry.askedSlots_other hst]
    exact .refl s
  entries := by
    refine ((List.filterMap_congr fun x _ => ?_).trans List.filterMap_some).symm
    split
    · next h => rw [h]
    · rfl

/-- R78, R79: an entry that is not TENTATIVE leaves the table, with its operations. -/
theorem State.Orderly.letsGoOf_removeEntry (hs : s.Orderly) (he : e ∈ s.table.entries)
    (hst : ∀ c y a, e.state ≠ .tentative c y a) (h : NoOwnEnd operations) :
    s.LetsGoOf e none operations false ((s.removeEntry e.slot).handAll operations) where
  letsGo := by
    rw [FlightEntry.askedSlots_other hst]
    exact (State.LetsGo.of_entries s _).trans (.handAll _ h)
  entries := hs.removeEntry_entries he

/-- R75: a MINE entry yielded. -/
theorem State.Orderly.letsGoOf_yieldMine (hs : s.Orderly) (he : e ∈ s.table.entries) (hst : e.state = .mine c)
    (reason : YieldReason) : s.LetsGoOf e (some { e with state := .released })
      [.miss c, .yieldRequest e.slot reason] false (s.yieldMine e.slot c reason) where
  letsGo := by
    rw [FlightEntry.askedSlots_other (by simp [hst])]
    exact (State.LetsGo.of_entries s _).trans (.handAll _ (by simp [NoOwnEnd, isOwnEnd]))
  entries := hs.setEntry_entries he .released

/-- R77, R79: a TENTATIVE entry that leaves the table is withdrawn at once. -/
theorem State.Orderly.letsGoOf_withdraw_removal (hs : s.Orderly) (he : e ∈ s.table.entries)
    (hst : e.state = .tentative c y a) (reason : Option YieldReason) :
    s.LetsGoOf e none [.returnCount c] true (s.withdraw e.slot ⟨.removal, reason⟩) := by
  rw [State.withdraw_removal (hs.entry? he) hst]
  constructor
  · rw [FlightEntry.askedSlots_tentative hst]
    exact (State.LetsGo.claimAsked hs.queue e.slot c).trans (.withdrawNow _ _ _ _)
  · exact hs.removeEntry_entries he

/-- R74: a withdrawal to UNCLAIMED, by where the CLAIM stands: carried out at once, or waiting in the entry. -/
theorem State.Orderly.letsGoOf_withdraw (hs : s.Orderly) (he : e ∈ s.table.entries)
    (hst : e.state = .tentative c y a) (reason : Option YieldReason) :
    s.LetsGoOf e (some { e with state := s.withdrawnState reason e.slot c y a })
      (if s.withdrawnAtOnce e.slot = true then [.returnCount c] else []) (s.withdrawnAtOnce e.slot)
      (s.withdraw e.slot ⟨.unclaimed, reason⟩) := by
  have hasked := State.LetsGo.claimAsked hs.queue e.slot c
  have hatOnce : s.LetsGoOf e (some { e with state := .unclaimed }) [.returnCount c] true
      ((s.claimAsked e.slot c).withdrawNow e.slot c .unclaimed) := by
    refine ⟨?_, hs.setEntry_entries he .unclaimed⟩
    rw [FlightEntry.askedSlots_tentative hst]
    exact hasked.trans (.withdrawNow _ _ _ _)
  have hwaits (st : EntryState) : s.LetsGoOf e (some { e with state := st }) [] false
      ((s.claimAsked e.slot c).setEntry e.slot st) := by
    refine ⟨?_, hs.setEntry_entries he st⟩
    rw [FlightEntry.askedSlots_tentative hst]
    exact hasked.trans (.of_entries _ _)
  rw [State.withdraw_eq (hs.entry? he) hst (by simp), State.withdrawnState, State.withdrawnAtOnce, mergeWithdrawal_eq]
  cases s.claimPlace e.slot with
  | queued | ended => exact hatOnce
  | contended | transmitted => exact hwaits _

/-! ### A walk that lets go of some entries (R77, R79, R104, R129) -/

theorem State.LetsGoOf.orderly (h : s.LetsGoOf e after operations counted t)
    (hslot : ∀ y, after = some y → y.slot = e.slot) (hs : s.Orderly) : t.Orderly := by
  refine h.letsGo.orderly h.entries (fun x y hy => ?_) hs
  split_ifs at hy with hx
  · rw [hslot y hy, hx]
  · cases hy
    rfl

/-- What letting go of the entries of a list leaves, each by itself. -/
structure State.LetsGoOfAll (s : State) (entries : List FlightEntry) (after : FlightEntry → Option FlightEntry)
    (operations : FlightEntry → List Instr) (counted : FlightEntry → Bool) (t : State) : Prop where
  letsGo : s.LetsGo ((entries.filter FlightEntry.isTentative).map (fun e => e.slot)) (entries.flatMap operations)
    (entries.countP counted) t
  entries : t.table.entries = s.table.entries.filterMap (fun x => if x ∈ entries then after x else some x)

/-- A walk lets go of each of its entries, when each stride does so for an entry that is still as it was and whose CLAIM
stands where it stood in the state `s` at which the outcomes are told. -/
theorem State.letsGoOfAll_foldl (s : State) (f : State → FlightEntry → State) {after : FlightEntry → Option FlightEntry}
    {operations : FlightEntry → List Instr} {counted : FlightEntry → Bool}
    (hslot : ∀ e y, after e = some y → y.slot = e.slot)
    (hf : ∀ (t : State) (e : FlightEntry), t.Orderly → e ∈ t.table.entries →
      t.claimPlace e.slot = s.claimPlace e.slot → t.LetsGoOf e (after e) (operations e) (counted e) (f t e)) :
    ∀ (entries : List FlightEntry) (t : State), t.Orderly → entries.Nodup → entries ⊆ t.table.entries →
      (∀ e ∈ entries, t.claimPlace e.slot = s.claimPlace e.slot) →
      t.LetsGoOfAll entries after operations counted (entries.foldl f t)
  | [], t, _, _, _, _ => ⟨.refl t, by simp⟩
  | e :: rest, t, ht, hnodup, hmem, hplace => by
    obtain ⟨hnew, hrest⟩ := List.nodup_cons.mp hnodup
    obtain ⟨he, hsub⟩ := List.cons_subset.mp hmem
    have hstride := hf t e ht he (hplace e List.mem_cons_self)
    have hother (x : FlightEntry) (hx : x ∈ rest) : x ≠ e ∧ x.slot ≠ e.slot :=
      have hne : x ≠ e := fun h => hnew (h ▸ hx)
      ⟨hne, fun h => hne (ht.eq_of_slot (hsub hx) he h)⟩
    have hwalk := letsGoOfAll_foldl s f hslot hf rest (f t e) (hstride.orderly (hslot e) ht) hrest
      (fun x hx => by
        rw [hstride.entries]
        exact List.mem_filterMap.mpr ⟨x, hsub hx, if_neg (hother x hx).1⟩)
      (fun x hx => by
        rw [← hplace x (List.mem_cons_of_mem e hx)]
        refine hstride.letsGo.claimPlace fun hasked => (hother x hx).2 ?_
        unfold FlightEntry.askedSlots at hasked
        split_ifs at hasked
        · exact List.mem_singleton.mp hasked
        · cases hasked)
    refine ⟨?_, ?_⟩
    · have hslots : ((e :: rest).filter FlightEntry.isTentative).map (fun x => x.slot)
          = e.askedSlots ++ (rest.filter FlightEntry.isTentative).map (fun x => x.slot) := by
        cases h : e.isTentative <;> simp [FlightEntry.askedSlots, h]
      rw [hslots, List.flatMap_cons, List.countP_cons]
      exact hstride.letsGo.trans hwalk.letsGo
    · rw [List.foldl_cons, hwalk.entries, hstride.entries, List.filterMap_filterMap]
      refine List.filterMap_congr fun x _ => ?_
      by_cases hx : x = e
      · subst hx
        rw [if_pos rfl, if_pos List.mem_cons_self]
        cases hafter : after x with
        | none => rfl
        | some y => exact if_neg fun hy => (hother y hy).2 (hslot x y hafter)
      · simp [hx]

end Sys2Proof.Machine
end


section
namespace Sys2Proof.Machine

variable {s t u : State} {e : FlightEntry}

/-! ### Giving back claims and owned stems (R104, R129) -/

theorem State.withdrawnState_congr {slot : Slot} (h : t.claimPlace slot = s.claimPlace slot)
    (reason : Option YieldReason) (c : CradleId) (y : Option YieldReason) (a : Option Withdrawal) :
    t.withdrawnState reason slot c y a = s.withdrawnState reason slot c y a := by
  rw [State.withdrawnState, h, State.withdrawnState]

theorem State.withdrawnAtOnce_congr {slot : Slot} (h : t.claimPlace slot = s.claimPlace slot) :
    t.withdrawnAtOnce slot = s.withdrawnAtOnce slot := by
  rw [State.withdrawnAtOnce, h, State.withdrawnAtOnce]

/-- R75, R104: one entry given back. -/
theorem State.Orderly.letsGoOf_giveBack (ht : t.Orderly) (he : e ∈ t.table.entries)
    (hplace : t.claimPlace e.slot = s.claimPlace e.slot) (reason : YieldReason) :
    t.LetsGoOf e (some (s.givenBackState reason e)) (s.givenBackOperations reason e)
      (e.isTentative && s.withdrawnAtOnce e.slot) (t.giveBack reason e) := by
  unfold State.giveBack State.givenBackState State.givenBackOperations FlightEntry.isTentative
  cases hst : e.state with
  | tentative c y a =>
    dsimp only
    rw [Bool.true_and, ← State.withdrawnAtOnce_congr hplace, ← State.withdrawnState_congr hplace]
    exact ht.letsGoOf_withdraw he hst (some reason)
  | mine c => exact ht.letsGoOf_yieldMine he hst reason
  | unclaimed | other n | yielded | released => exact State.letsGoOf_refl (by simp [hst])

theorem State.givenBackState_slot (s : State) (reason : YieldReason) (e : FlightEntry) :
    (s.givenBackState reason e).slot = e.slot := by
  unfold State.givenBackState
  split <;> rfl

/-- A walk that gives back the entries that a test picks, from a state in which every CLAIM stands as in `s`. -/
theorem State.gaveBack_foldl (hs : s.Orderly) (htable : u.table = s.table) (hbus : u.bus = s.bus)
    (hstatus : u.status = s.status) (hplace : ∀ slot, u.claimPlace slot = s.claimPlace slot) (reason : YieldReason)
    (picked : FlightEntry → Bool) :
    ∃ v, (s.table.entries.filter picked).foldl (fun t e => t.giveBack reason e) u = v
      ∧ s.gaveBack reason picked u.handed v
      ∧ v = { u with bus := v.bus, table := v.table, handed := v.handed, status := v.status } := by
  have hu : u.Orderly := ⟨htable ▸ hs.slots, hs.queue.of_queue (by rw [hbus])⟩
  obtain ⟨hgo, hentries⟩ := State.letsGoOfAll_foldl s (fun t e => t.giveBack reason e)
    (after := fun e => some (s.givenBackState reason e))
    (by rintro e y ⟨⟩; exact s.givenBackState_slot reason e)
    (fun t e ht he hplace => ht.letsGoOf_giveBack he hplace reason)
    (s.table.entries.filter picked) u hu ((List.Nodup.of_map _ hs.slots).filter _)
    (htable ▸ List.filter_subset_self _) fun e _ => hplace e.slot
  generalize (s.table.entries.filter picked).foldl (fun t e => t.giveBack reason e) u = v at hgo hentries ⊢
  refine ⟨v, rfl, ⟨?_, hbus ▸ hgo.bus, hgo.handed, ?_, fun m hm => ?_, hstatus ▸ hgo.status⟩, hgo.frame⟩
  · have hgiven : v.table.entries = s.table.entries.map
        (fun e => if picked e = true then s.givenBackState reason e else e) := by
      rw [hentries, htable, ← List.filterMap_eq_map']
      refine List.filterMap_congr fun x hx => ?_
      cases hp : picked x <;> simp [List.mem_filter, hx, hp]
    rw [← hgiven, ← htable]
    exact congrArg (FlightTable.mk v.table.entries) hgo.lotCloses
  · rw [hgo.withdrawn, State.counter, hstatus, State.counter]
  · rw [hgo.counter m hm, State.counter, hstatus, State.counter]

theorem State.gaveBack_congr {reason : YieldReason} {picked picked' : FlightEntry → Bool} {handed : List Instr}
    (h : ∀ e, picked e = picked' e) (hgave : s.gaveBack reason picked handed t) : s.gaveBack reason picked' handed t :=
  (funext h : picked = picked') ▸ hgave

/-! ### No owned stem is left (R104, R129) -/

theorem State.mem_setEntry_of_mine {slot : Slot} {st : EntryState} {c : CradleId} (hst : st ≠ .mine c)
    (he : e ∈ (s.setEntry slot st).table.entries) (hmine : e.state = .mine c) :
    e ∈ s.table.entries ∧ e.slot ≠ slot := by
  obtain ⟨x, hx, rfl⟩ := List.mem_map.mp he
  split_ifs at hmine ⊢ with hslot
  · exact absurd hmine hst
  · exact ⟨hx, hslot⟩

theorem State.mem_withdrawNow_of_mine {slot : Slot} {d : CradleId} {target : WithdrawalTarget} {c : CradleId}
    (he : e ∈ (s.withdrawNow slot d target).table.entries) (hmine : e.state = .mine c) : e ∈ s.table.entries := by
  cases target with
  | unclaimed => exact (mem_setEntry_of_mine (st := .unclaimed) (by simp) he hmine).1
  | other n => exact (mem_setEntry_of_mine (st := .other n) (by simp) he hmine).1
  | released => exact (mem_setEntry_of_mine (st := .released) (by simp) he hmine).1
  | removal => exact List.mem_of_mem_filter he

theorem State.mem_withdraw_of_mine {slot : Slot} {w : Withdrawal} {c : CradleId}
    (he : e ∈ (s.withdraw slot w).table.entries) (hmine : e.state = .mine c) : e ∈ s.table.entries := by
  by_cases h : ∃ x d y a, s.entry? slot = some x ∧ x.state = .tentative d y a
  · obtain ⟨x, d, y, a, hx, hst⟩ := h
    rcases s.withdraw_cases slot w hx hst with ⟨target, hw⟩ | ⟨-, y', a', hw⟩ <;> rw [hw] at he
    · exact mem_withdrawNow_of_mine (s := s.claimAsked slot d) he hmine
    · exact (mem_setEntry_of_mine (s := s.claimAsked slot d) (by simp) he hmine).1
  · rwa [s.withdraw_other slot w fun x hx d y a hst => h ⟨x, d, y, a, hx, hst⟩] at he

/-- Giving back one entry makes none MINE, and leaves the one given back MINE no longer. -/
theorem State.mem_giveBack_of_mine {reason : YieldReason} {x : FlightEntry} {c : CradleId}
    (hx : x ∈ (s.giveBack reason e).table.entries) (hmine : x.state = .mine c) : x ∈ s.table.entries ∧ x ≠ e := by
  have hne (hst : e.state ≠ .mine c) : x ≠ e := fun h => hst (h ▸ hmine)
  unfold State.giveBack at hx
  split at hx
  case h_1 d y a hst => exact ⟨mem_withdraw_of_mine hx hmine, hne (by simp [hst])⟩
  case h_2 d hst =>
    obtain ⟨hmem, hslot⟩ := mem_setEntry_of_mine (st := .released) (by simp) hx hmine
    exact ⟨hmem, fun h => hslot (h ▸ rfl)⟩
  all_goals next hst => exact ⟨hx, hne (by simp [hst])⟩

/-- A walk that gives back every stem owned for a cradle leaves none. -/
theorem State.not_mine_foldl_giveBack (reason : YieldReason) (c : CradleId) : ∀ (l : List FlightEntry) (s : State),
    (∀ x ∈ s.table.entries, x.state = .mine c → x ∈ l) →
    ∀ x ∈ (l.foldl (fun t e => t.giveBack reason e) s).table.entries, x.state ≠ .mine c
  | [], _, h, x, hx, hmine => nomatch h x hx hmine
  | e :: rest, s, h, x, hx, hmine => by
    refine not_mine_foldl_giveBack reason c rest (s.giveBack reason e) (fun z hz hzmine => ?_) x hx hmine
    obtain ⟨hmem, hne⟩ := mem_giveBack_of_mine hz hzmine
    exact List.mem_of_ne_of_mem hne (h z hmem hzmine)

/-! ### Operations go to the end of what is handed over -/

theorem State.withdraw_handed (s : State) (slot : Slot) (w : Withdrawal) :
    ∃ later, (s.withdraw slot w).handed = s.handed ++ later := by
  by_cases h : ∃ e c y a, s.entry? slot = some e ∧ e.state = .tentative c y a
  · obtain ⟨e, c, y, a, he, hst⟩ := h
    rcases s.withdraw_cases slot w he hst with ⟨target, hw⟩ | ⟨-, y', a', hw⟩ <;> rw [hw]
    · exact ⟨_, State.withdrawNow_handed slot c target⟩
    · exact ⟨[], (List.append_nil _).symm⟩
  · rw [s.withdraw_other slot w fun e he c y a hst => h ⟨e, c, y, a, he, hst⟩]
    exact ⟨[], (List.append_nil _).symm⟩

theorem State.giveBack_handed (s : State) (reason : YieldReason) (e : FlightEntry) :
    ∃ later, (s.giveBack reason e).handed = s.handed ++ later := by
  unfold State.giveBack
  split
  case h_1 => exact s.withdraw_handed e.slot _
  case h_2 => exact ⟨_, rfl⟩
  all_goals exact ⟨[], (List.append_nil _).symm⟩

theorem State.giveBackAll_handed (s : State) (reason : YieldReason) :
    ∃ later, (s.giveBackAll reason).handed = s.handed ++ later :=
  foldl_keeps (fun t : State => ∃ later, t.handed = s.handed ++ later) _
    (fun t e ⟨later, h⟩ => by
      obtain ⟨more, hmore⟩ := t.giveBack_handed reason e
      exact ⟨later ++ more, by rw [hmore, h, List.append_assoc]⟩) _ s ⟨[], (List.append_nil _).symm⟩

/-! ### Holds and clears -/

theorem State.giveBackAll_engine_pins (s : State) (reason : YieldReason) :
    (s.giveBackAll reason).engine = s.engine ∧ (s.giveBackAll reason).pins = s.pins :=
  foldl_keeps (fun t : State => t.engine = s.engine ∧ t.pins = s.pins) _
    (fun t e ⟨hengine, hpins⟩ => by simp [hengine, hpins]) _ s ⟨rfl, rfl⟩

/-- The state in which a hold gives back: held set, the notices handed over (R89, R104; log 40). -/
def State.holdTaken (s : State) : State := (s.takeHold true).handAll (holdNotices true)

theorem State.holdTaken_claimPlace (s : State) (slot : Slot) : s.holdTaken.claimPlace slot = s.claimPlace slot :=
  State.claimPlace_congr (s := s) (t := s.holdTaken) rfl rfl
    (by simp [State.holdTaken, holdNotices, State.takeHold, isOwnEnd])

theorem exec_holdAssertion_active (h : s.dropActive) (hfilter : s.engine.holdFilter ≠ .stopped)
    (hheld : s.engine.held = false) : exec .holdAssertion s = .next (s.holdTaken.giveBackAll .hold) :=
  congrArg Host.Outcome.next ((if_pos ⟨⟨h.1, State.loaded_of_dropActive h⟩, hfilter, hheld⟩).trans (if_pos h.2))

theorem exec_holdAssertion_inactive (hrole : s.loader.role = some .drop)
    (hmode : s.loader.mode = .announcing ∨ s.loader.mode = .halted) (hfilter : s.engine.holdFilter ≠ .stopped)
    (hheld : s.engine.held = false) : exec .holdAssertion s = .next (s.takeHold true) := by
  have hloaded : s.loaded := hmode.elim .inl (.inr ∘ .inr)
  have hinactive : s.loader.mode ≠ .active := by rcases hmode with h | h <;> simp [h]
  exact congrArg Host.Outcome.next ((if_pos ⟨⟨hrole, hloaded⟩, hfilter, hheld⟩).trans (if_neg hinactive))

/-- Taking an arrival that is no end of a CLAIM leaves every CLAIM where it stands. -/
theorem State.taken_claimPlace (s : State) {i : Instr} (hi : ∀ id slot, isOwnEnd id slot i = false) (slot : Slot) :
    (s.taken i).claimPlace slot = s.claimPlace slot := by
  refine State.claimPlace_congr (s := s) (t := s.taken i) rfl rfl ?_
  by_cases h : i ∈ s.handed
  · rw [(List.perm_cons_erase h).any_eq, List.any_cons, hi, Bool.false_or]
    rfl
  · rw [State.taken_handed, List.erase_of_not_mem h]

theorem exec_clearNoticeFlightTable (h : s.dropActive) {c : CradleId} (hstate : (s.cradle c).state = .sealed)
    (hpending : (s.cradle c).pending = .void) : exec (.clearNoticeFlightTable c) s
      = .next ((s.taken (.clearNoticeFlightTable c)).giveBackCradle c) :=
  congrArg Host.Outcome.next (if_pos ⟨h, decide_eq_true ⟨hstate, hpending⟩⟩)

/-- R131: a clear notice that comes too late (log 29). -/
theorem exec_clearNoticeFlightTable_late {c : CradleId}
    (h : (s.cradle c).state ≠ .sealed ∨ (s.cradle c).pending ≠ .void) : exec (.clearNoticeFlightTable c) s
      = .next (s.taken (.clearNoticeFlightTable c)) := by
  refine congrArg Host.Outcome.next (if_neg ?_)
  rintro ⟨-, hvoid⟩
  obtain ⟨hstate, hpending⟩ := of_decide_eq_true hvoid
  exact h.elim (· hstate) (· hpending)

/-- Settles O39: each entry is given back by itself, where its CLAIM stands at the assertion or the notice. -/
theorem holdAndClearGiveStemsBack : Obligations.HoldAndClearGiveStemsBack := by
  refine ⟨fun s hrole hfilter hheld => ⟨fun hmode => ?_, fun hmode => ?_⟩,
    fun s c hrole hmode => ⟨fun hstate hpending => ?_, fun hlate => ?_⟩⟩
  · exact exec_holdAssertion_inactive hrole hmode hfilter hheld
  · obtain ⟨later, hlater⟩ := s.holdTaken.giveBackAll_handed .hold
    obtain ⟨hengine, hpins⟩ := s.holdTaken.giveBackAll_engine_pins .hold
    refine ⟨_, exec_holdAssertion_active ⟨hrole, hmode⟩ hfilter hheld, hengine, hpins, ⟨later, hlater⟩,
      fun e he c => ?_, fun hslots hqueue => ?_⟩
    · exact State.not_mine_foldl_giveBack .hold c _ s.holdTaken (fun x hx _ => hx) e he
    · obtain ⟨v, hv, hgave, hframe⟩ := State.gaveBack_foldl (u := s.holdTaken) ⟨hslots, hqueue⟩ rfl rfl rfl
        s.holdTaken_claimPlace .hold (fun _ => true)
      rw [List.filter_true] at hv
      change s.holdTaken.giveBackAll .hold = v at hv
      rw [hv]
      exact ⟨hgave, by rw [hframe]; rfl⟩
  · have htaken := s.taken_claimPlace (i := .clearNoticeFlightTable c) fun _ _ => rfl
    refine ⟨_, exec_clearNoticeFlightTable ⟨hrole, hmode⟩ hstate hpending, fun e he => ?_, fun hslots hqueue => ?_⟩
    · refine State.not_mine_foldl_giveBack .void c _ _ (fun x hx hmine => List.mem_filter.mpr ⟨hx, ?_⟩) e he
      simp [entryCradle, hmine]
    · obtain ⟨v, hv, hgave, hframe⟩ := State.gaveBack_foldl (u := s.taken (.clearNoticeFlightTable c)) ⟨hslots, hqueue⟩
        rfl rfl rfl htaken .void (fun e => entryCradle e.state == some c)
      change (s.taken (.clearNoticeFlightTable c)).giveBackCradle c = v at hv
      rw [hv]
      exact ⟨State.gaveBack_congr (fun e => by cases e.state <;> simp [entryCradle]) hgave, hframe⟩
  · exact exec_clearNoticeFlightTable_late hlate

end Sys2Proof.Machine
end


section
namespace Sys2Proof.Machine

variable {s t u : State} {e : FlightEntry}

/-! ### Entries that pass, that a slip removes, and that the claim deadline finds (R77, R78, R79) -/

@[simp] theorem State.handAll_nil (s : State) : s.handAll [] = s := by
  simp [State.handAll]

/-- R77, R78: the pass event of one entry. -/
theorem State.Orderly.letsGoOf_passEvent (hs : s.Orderly) (he : e ∈ s.table.entries) (period : Ticks) :
    s.LetsGoOf e none (passOperations period e) e.isTentative (s.passEvent period e) := by
  have hremoved {operations : List Instr} (hst : ∀ c y a, e.state ≠ .tentative c y a) (h : NoOwnEnd operations) :=
    hs.letsGoOf_removeEntry he hst h
  unfold State.passEvent passOperations FlightEntry.isTentative
  cases hst : e.state with
  | tentative c y a => exact hs.letsGoOf_withdraw_removal he hst none
  | mine c =>
    exact hremoved (operations := [.releaseHandover e.slot c period]) (by simp [hst]) (by simp [NoOwnEnd, isOwnEnd])
  | unclaimed | other n | yielded | released =>
    simpa using hremoved (operations := []) (by simp [hst]) (by simp [NoOwnEnd])

/-- R79: the removal of one entry at a slip. -/
theorem State.Orderly.letsGoOf_slipRemoval (hs : s.Orderly) (he : e ∈ s.table.entries) :
    s.LetsGoOf e none (slipOperations e) e.isTentative (s.slipRemoval e) := by
  have hremoved {operations : List Instr} (hst : ∀ c y a, e.state ≠ .tentative c y a) (h : NoOwnEnd operations) :=
    hs.letsGoOf_removeEntry he hst h
  unfold State.slipRemoval slipOperations FlightEntry.isTentative
  cases hst : e.state with
  | tentative c y a => exact hs.letsGoOf_withdraw_removal he hst none
  | mine c =>
    exact hremoved (operations := [.miss c, .yieldRequest e.slot .void]) (by simp [hst]) (by simp [NoOwnEnd, isOwnEnd])
  | unclaimed | other n | yielded | released =>
    simpa using hremoved (operations := []) (by simp [hst]) (by simp [NoOwnEnd])

/-- R77: one entry at the claim deadline. -/
theorem State.Orderly.letsGoOf_deadline (ht : t.Orderly) (he : e ∈ t.table.entries)
    (hplace : t.claimPlace e.slot = s.claimPlace e.slot) :
    t.LetsGoOf e (some (s.deadlineState e)) (s.deadlineOperations e) (e.isTentative && s.withdrawnAtOnce e.slot)
      (t.withdraw e.slot ⟨.unclaimed, none⟩) := by
  have hrests (hst : ∀ c y a, e.state ≠ .tentative c y a) :
      t.LetsGoOf e (some e) [] false (t.withdraw e.slot ⟨.unclaimed, none⟩) := by
    rw [t.withdraw_other e.slot _ fun x hx => by rw [ht.entry? he] at hx; cases hx; exact hst]
    exact State.letsGoOf_refl hst
  unfold State.deadlineState State.deadlineOperations FlightEntry.isTentative
  cases hst : e.state with
  | tentative c y a =>
    dsimp only
    rw [Bool.true_and, ← State.withdrawnAtOnce_congr hplace, ← State.withdrawnState_congr hplace]
    exact ht.letsGoOf_withdraw he hst none
  | mine c | unclaimed | other n | yielded | released => exact hrests (by simp [hst])

theorem State.deadlineState_slot (s : State) (e : FlightEntry) : (s.deadlineState e).slot = e.slot := by
  unfold State.deadlineState
  split <;> rfl

/-! ### A carrier arrival up to its lot closes (R77, R79) -/

theorem State.LetsGoOfAll.orderly {entries : List FlightEntry} {after : FlightEntry → Option FlightEntry}
    {operations : FlightEntry → List Instr} {counted : FlightEntry → Bool}
    (h : s.LetsGoOfAll entries after operations counted t) (hslot : ∀ e y, after e = some y → y.slot = e.slot)
    (hs : s.Orderly) : t.Orderly := by
  refine h.letsGo.orderly h.entries (fun x y hy => ?_) hs
  split_ifs at hy
  · exact hslot x y hy
  · cases hy
    rfl

/-- Letting entries go out of the table leaves the others. -/
theorem State.LetsGoOfAll.entries_left {entries : List FlightEntry} {gone : FlightEntry → Bool}
    {operations : FlightEntry → List Instr} {counted : FlightEntry → Bool} (hentries : s.table.entries = entries)
    (h : s.LetsGoOfAll (entries.filter gone) (fun _ => none) operations counted t) :
    t.table.entries = entries.filter (fun e => !gone e) := by
  rw [h.entries, hentries, ← List.filterMap_eq_filter (p := fun e => !gone e)]
  refine List.filterMap_congr fun x hx => ?_
  cases hg : gone x <;> simp [Option.guard, List.mem_filter, hx, hg]

/-- The entries from distance 1 to Hc among those that an arrival leaves (R77). -/
def State.nearDeadline (s : State) (here : Slot) (gone : FlightEntry → Bool) (e : FlightEntry) : Bool :=
  !gone e && decide (1 ≤ s.remAt here e.slot ∧ s.remAt here e.slot ≤ s.cfg.claimHorizon)

/-- The CLAIMs that an arrival asks for: those of the entries that leave, and those of the entries near the deadline. -/
theorem mem_slots_gone_or_near (gone near : FlightEntry → Bool) (l : List FlightEntry) (slot : Slot) :
    slot ∈ ((l.filter gone).filter FlightEntry.isTentative).map (fun e => e.slot)
        ++ ((l.filter near).filter FlightEntry.isTentative).map (fun e => e.slot)
      ↔ slot ∈ (l.filter (fun e => (gone e || near e) && e.isTentative)).map (fun e => e.slot) := by
  simp only [List.mem_append, List.mem_map, List.mem_filter, Bool.and_eq_true, Bool.or_eq_true, ← exists_or]
  exact exists_congr fun x => by tauto

/-- The claims that an arrival counts as withdrawn: all that leave, and those near the deadline withdrawn at once. -/
theorem countP_gone_add_near (gone near atOnce tentative : FlightEntry → Bool)
    (hnear : ∀ e, near e = true → gone e = false) (l : List FlightEntry) :
    (l.filter near).countP (fun e => tentative e && atOnce e) + (l.filter gone).countP tentative
      = l.countP (fun e => tentative e && (gone e || (near e && atOnce e))) := by
  rw [l.countP_eq_countP_filter_add (fun e => tentative e && (gone e || (near e && atOnce e))) gone, Nat.add_comm]
  congr 1
  · refine List.countP_congr fun e he => ?_
    simp [(List.mem_filter.mp he).2]
  · rw [List.countP_filter, List.countP_filter]
    refine List.countP_congr fun e _ => ?_
    have hn := hnear e
    cases hnear : near e <;> cases hgone : gone e <;> simp_all [and_comm]

/-- An arrival that lets go of the entries `gone` picks by the strides `f`, then judges the claim deadline, from a state
in which every CLAIM stands as in `s`. -/
theorem State.arrivalTaken_foldl (hs : s.Orderly) (htable : u.table = s.table) (hbus : u.bus = s.bus)
    (hstatus : u.status = s.status) (hcfg : u.cfg = s.cfg) (hplace : ∀ slot, u.claimPlace slot = s.claimPlace slot)
    (f : State → FlightEntry → State) (operations : FlightEntry → List Instr)
    (hf : ∀ (t : State) (e : FlightEntry), t.Orderly → e ∈ t.table.entries →
      t.LetsGoOf e none (operations e) e.isTentative (f t e))
    (here : Slot) (gone : FlightEntry → Bool) :
    ∃ v, ((s.table.entries.filter gone).foldl f u).claimDeadlines here = v
      ∧ s.arrivalTaken here gone operations u.handed v.table.entries v.handed v
      ∧ v.table.lotCloses = s.table.lotCloses
      ∧ v = { u with bus := v.bus, table := v.table, handed := v.handed, status := v.status } := by
  have hu : u.Orderly := ⟨htable ▸ hs.slots, hs.queue.of_queue (by rw [hbus])⟩
  have hnodup : s.table.entries.Nodup := List.Nodup.of_map _ hs.slots
  have hleaves := State.letsGoOfAll_foldl s f (after := fun _ => none) (by simp) (fun t e ht he _ => hf t e ht he)
    (s.table.entries.filter gone) u hu (hnodup.filter _) (htable ▸ List.filter_subset_self _) fun e _ => hplace e.slot
  generalize (s.table.entries.filter gone).foldl f u = w at hleaves ⊢
  have hw : w.Orderly := hleaves.orderly (by simp) hu
  have hstay := hleaves.entries_left (congrArg FlightTable.entries htable)
  have hwcfg : w.cfg = s.cfg := hleaves.letsGo.cfg.trans hcfg
  have hdue : w.table.entries.filter (fun e => decide (1 ≤ w.remAt here e.slot ∧ w.remAt here e.slot
      ≤ w.cfg.claimHorizon)) = s.table.entries.filter (s.nearDeadline here gone) := by
    have hrem : w.remAt here = s.remAt here := by
      unfold State.remAt
      rw [hwcfg]
    rw [hstay, List.filter_filter, hrem, hwcfg]
    exact List.filter_congr fun x _ => Bool.and_comm _ _
  have hnear := State.letsGoOfAll_foldl s (fun t e => t.withdraw e.slot ⟨.unclaimed, none⟩)
    (after := fun e => some (s.deadlineState e)) (by rintro e y ⟨⟩; exact s.deadlineState_slot e)
    (fun t e ht he hplace => ht.letsGoOf_deadline he hplace)
    (s.table.entries.filter (s.nearDeadline here gone)) w hw (hnodup.filter _)
    (fun x hx => by
      obtain ⟨hx, hn⟩ := List.mem_filter.mp hx
      simp only [State.nearDeadline, Bool.and_eq_true] at hn
      exact hstay ▸ List.mem_filter.mpr ⟨hx, hn.1⟩)
    (fun x hx => by
      obtain ⟨hx, hn⟩ := List.mem_filter.mp hx
      rw [← hplace x.slot]
      refine hleaves.letsGo.claimPlace fun hasked => ?_
      obtain ⟨z, hz, hslot⟩ := List.mem_map.mp hasked
      obtain ⟨hz, hg⟩ := List.mem_filter.mp (List.mem_filter.mp hz).1
      rw [hs.eq_of_slot hz hx hslot] at hg
      simp [State.nearDeadline, hg] at hn)
  rw [State.claimDeadlines, hdue]
  generalize (s.table.entries.filter (s.nearDeadline here gone)).foldl
    (fun t e => t.withdraw e.slot ⟨.unclaimed, none⟩) w = v at hnear ⊢
  have hgo := hleaves.letsGo.trans hnear.letsGo
  refine ⟨v, rfl, fun near hdef => ?_, hgo.lotCloses.trans (by rw [htable]), hgo.frame⟩
  obtain rfl : near = s.nearDeadline here gone := funext hdef
  refine ⟨?_, ?_, hgo.handed.trans (List.append_assoc _ _ _).symm, ?_, fun m hm => ?_, hstatus ▸ hgo.status⟩
  · rw [hnear.entries, hleaves.entries, htable, List.filterMap_filterMap]
    refine List.filterMap_congr fun x hx => ?_
    cases hg : gone x with
    | true => simp [List.mem_filter, hx, hg]
    | false => cases hn : s.nearDeadline here gone x <;> simp [List.mem_filter, hx, hg, hn]
  · rw [← removeClaims_congr (mem_slots_gone_or_near _ _ _), ← hbus]
    exact hgo.bus
  · rw [hgo.withdrawn, countP_gone_add_near _ _ _ _ (fun e he => by
      simp only [State.nearDeadline, Bool.and_eq_true, Bool.not_eq_true'] at he
      exact he.1), State.counter, hstatus, State.counter]
  · rw [hgo.counter m hm, State.counter, hstatus, State.counter]

/-! ### The arrivals (R77, R79, R82) -/

theorem State.fireLots_table (s : State) (fires : LotClose → Bool) : (s.fireLots fires).table
    = { s.table with lotCloses := s.table.lotCloses.filter (fun r => !fires r) } := rfl

theorem State.fireLots_handed (s : State) (fires : LotClose → Bool) : (s.fireLots fires).handed
    = s.handed ++ (s.table.lotCloses.filter fires).map (fun r => Instr.closeLot r.lot) := rfl

theorem exec_flightTableCarrierArrival (h : s.dropActive) (arrival : Arrival) :
    exec (.flightTableCarrierArrival arrival) s = .next (if arrival.slip = true
      then (s.taken (.flightTableCarrierArrival arrival)).slipArrival arrival
      else (s.taken (.flightTableCarrierArrival arrival)).ordinaryArrival arrival) :=
  congrArg Host.Outcome.next (if_pos h)

/-- Settles O38: each entry leaves or is withdrawn by itself, where its CLAIM stands at the arrival. -/
theorem carrierArrivalPassesEntries : Obligations.CarrierArrivalPassesEntries := by
  intro s arrival hrole hmode hslots hqueue
  have htaken := s.taken_claimPlace (i := .flightTableCarrierArrival arrival) fun _ _ => rfl
  rw [exec_flightTableCarrierArrival ⟨hrole, hmode⟩]
  refine ⟨fun hslip => ?_, fun gone hslip hgone => ?_⟩
  · obtain ⟨v, hv, hdone, hlots, hframe⟩ := State.arrivalTaken_foldl (u := s.taken (.flightTableCarrierArrival arrival))
      ⟨hslots, hqueue⟩ rfl rfl rfl rfl htaken (fun t e => t.passEvent arrival.period e) (passOperations arrival.period)
      (fun t e ht he => ht.letsGoOf_passEvent he arrival.period) arrival.slotHere
      (fun e => s.remAt arrival.slotHere e.slot == 0)
    have harrival : (s.taken (.flightTableCarrierArrival arrival)).ordinaryArrival arrival
        = v.fireLots (fun r => s.remAt arrival.slotHere r.lastSlot == 0) := by
      rw [← hv]
      rfl
    rw [if_neg (by simp [hslip]), harrival]
    refine ⟨_, v.table.entries, v.handed, rfl, hdone, ?_, ?_, ?_⟩
    · rw [← hlots]
      rfl
    · rw [← hlots]
      rfl
    · rw [hframe]
      rfl
  · obtain ⟨v, hv, hdone, hlots, hframe⟩ := State.arrivalTaken_foldl (u := s.taken (.flightTableCarrierArrival arrival))
      ⟨hslots, hqueue⟩ rfl rfl rfl rfl htaken (fun t e => t.slipRemoval e) slipOperations
      (fun t e ht he => ht.letsGoOf_slipRemoval he) arrival.slotHere (fun e => gone e.slot)
    have hrem : v.remAt arrival.slotHere = s.remAt arrival.slotHere := by
      rw [hframe]
      rfl
    have harrival : (s.taken (.flightTableCarrierArrival arrival)).slipArrival arrival
        = (v.replace arrival.slotHere).fireLots (fun r => gone r.lastSlot) := by
      rw [← hv]
      simp only [hgone]
      rfl
    rw [if_pos hslip, harrival]
    have hsorted := sortByKey_pairwise (fun r : LotClose => s.remAt arrival.slotHere r.lastSlot) s.table.lotCloses
    have hperm := sortByKey_perm (fun r : LotClose => s.remAt arrival.slotHere r.lastSlot) s.table.lotCloses
    have hreplaced : (v.replace arrival.slotHere).table
        = ⟨sortByKey (fun e => s.remAt arrival.slotHere e.slot) v.table.entries,
          sortByKey (fun r => s.remAt arrival.slotHere r.lastSlot) s.table.lotCloses⟩ := by
      rw [State.replace, hrem, hlots]
    refine ⟨_, v.table.entries, v.handed, (sortByKey (fun r => s.remAt arrival.slotHere r.lastSlot)
      s.table.lotCloses).filter (fun r => gone r.lastSlot), rfl, hdone, ?_, ?_, ?_, ?_, hperm.filter _,
      hsorted.filter _, ?_, ?_⟩
    · rw [State.fireLots_table, hreplaced]
      exact sortByKey_perm _ _
    · rw [State.fireLots_table, hreplaced]
      exact sortByKey_pairwise _ _
    · rw [State.fireLots_table, hreplaced]
      exact hperm.filter _
    · rw [State.fireLots_table, hreplaced]
      exact hsorted.filter _
    · rw [State.fireLots_handed, hreplaced]
      rfl
    · rw [hframe]
      rfl

end Sys2Proof.Machine
end


section
/-! SUPPORT. Proofs of the statements on claiming: carrier arrivals and the HOLD level at the Claim Engine, the choice
of a cradle, the flap gap, RESERVE, and what a pass does with one entry. -/

namespace Sys2Proof.Machine

variable {s : State}

/-! ### Carrier arrivals at the Claim Engine (R91) -/

theorem exec_claimEngineCarrierArrival_active (h : s.dropActive) (a : Arrival) :
    exec (.claimEngineCarrierArrival a) s = .next ((s.taken (.claimEngineCarrierArrival a)).handAll
      [.carrierNotice a.slotHere, .passRequest]) :=
  congrArg Host.Outcome.next (if_pos h)

theorem exec_claimEngineCarrierArrival_announcing (hrole : s.loader.role = some .drop)
    (hmode : s.loader.mode = .announcing) (a : Arrival) :
    exec (.claimEngineCarrierArrival a) s
      = .next ((s.taken (.claimEngineCarrierArrival a)).hand (.carrierNotice a.slotHere)) := by
  have hactive : ¬ (s.taken (.claimEngineCarrierArrival a)).dropActive := by simp [State.dropActive, hmode]
  exact congrArg Host.Outcome.next ((if_neg hactive).trans (if_pos ⟨hrole, hmode⟩))

/-! ### The HOLD level (R53, R89) -/

/-- A level equal to the held flag leaves a running filter steady: a revert discards the change under way. -/
theorem holdFilterAfter_same {f : HoldFilter} (hf : f ≠ .stopped) (held : Bool) :
    holdFilterAfter f held held = .steady := by
  cases f with
  | stopped => exact absurd rfl hf
  | steady | changing _ => simp [holdFilterAfter]

theorem holdFilterAfter_steady {held level : Bool} (h : level ≠ held) :
    holdFilterAfter .steady held level = .changing 0 := if_neg h

theorem holdFilterAfter_changing {held level : Bool} (h : level ≠ held) (n : Ticks) :
    holdFilterAfter (.changing n) held level = .changing n := if_neg h

theorem exec_holdLevelChange_drop (h : s.dropLoaded) (level : Bool) :
    exec (.holdLevelChange level) s = .next { s with
      pins := { s.pins with hold := level }
      engine := ⟨s.engine.held, holdFilterAfter s.engine.holdFilter s.engine.held level⟩ } :=
  congrArg Host.Outcome.next (if_pos h)

theorem exec_holdLevelChange_gauge (h : s.loader.role = some .gauge) (level : Bool) :
    exec (.holdLevelChange level) s = .next { s with pins := { s.pins with hold := level } } := by
  have hdrop : ¬ ({ s with pins := { s.pins with hold := level } } : State).dropLoaded := by simp [h]
  exact congrArg Host.Outcome.next (if_neg hdrop)

/-! ### The hold release (R89, R107) -/

theorem exec_holdRelease (hl : s.dropLoaded) (hf : s.engine.holdFilter ≠ .stopped) (hheld : s.engine.held = true) :
    exec .holdRelease s = .next (if s.loader.mode = .active
      then ((s.takeHold false).handAll (holdNotices false)).hand .passRequest else s.takeHold false) :=
  congrArg Host.Outcome.next (if_pos ⟨hl, hf, hheld⟩)

/-- Settles O42: arrivals by mode, the level by role and hold filter, the release by mode. -/
theorem claimEngineArrivalsAndHold : Obligations.ClaimEngineArrivalsAndHold := by
  refine ⟨fun s a hrole => ⟨fun hmode => ?_, fun hmode => ?_⟩, fun s level hl => ⟨?_, ?_, ?_⟩,
    fun s level hrole => exec_holdLevelChange_gauge hrole level,
    fun s hrole hf hheld => ⟨fun hmode => ?_, fun hmode => ?_⟩⟩
  · exact exec_claimEngineCarrierArrival_active ⟨hrole, hmode⟩ a
  · exact exec_claimEngineCarrierArrival_announcing hrole hmode a
  · rintro rfl hf
    rw [exec_holdLevelChange_drop hl, holdFilterAfter_same hf]
  · intro hne hf
    rw [exec_holdLevelChange_drop hl, hf, holdFilterAfter_steady hne]
  · intro hne n hf
    rw [exec_holdLevelChange_drop hl, hf, holdFilterAfter_changing hne, ← hf]
  · have hl : s.dropLoaded := ⟨hrole, hmode.elim .inl fun h => .inr (.inr h)⟩
    rw [exec_holdRelease hl hf hheld, if_neg (by rcases hmode with h | h <;> simp [h])]
    rfl
  · rw [exec_holdRelease ⟨hrole, .inr (.inl hmode)⟩ hf hheld, if_pos hmode]
    simp [State.takeHold, State.handAll, State.hand, holdNotices]

end Sys2Proof.Machine
end

section
namespace Sys2Proof.Machine

variable {s : State} {slot : Slot} {e : FlightEntry} {service : ServiceEntry} {c : CradleId} {size cls lot : Nat}

/-! ### Candidates (R93 to R95) -/

theorem claimable_iff {st : EntryState} : claimable st = true ↔ st = .unclaimed ∨ st = .yielded := by
  cases st <;> simp [claimable]

theorem State.isCandidate_iff : s.isCandidate e service = true
    ↔ s.loader.mode = .active ∧ s.engine.held = false ∧ s.flag .txFault = false ∧ s.tracker.state = .tracking
      ∧ (e.state = .unclaimed ∨ e.state = .yielded)
      ∧ (s.cfg.claimHorizon < s.rem e.slot ∧ s.rem e.slot ≤ s.cfg.depth)
      ∧ (service.secondary = false ∨ s.rem e.slot ≤ s.cfg.claimHorizon + s.cfg.secondaryDepth) := by
  simp [State.isCandidate, inServiceWindow, claimable_iff, and_assoc]

theorem State.queueHasRoom_iff : s.queueHasRoom = true ↔ s.bus.queue.length < 16 := decide_eq_true_iff

/-! ### The choice of a cradle (R96) -/

theorem State.takesStem_iff : s.takesStem size e c = true ↔ s.hasRoomFor e.cls e.lot size c := decide_eq_true_iff

/-- By which of the cradles have room for the stem. -/
theorem State.chooseCradle_eq_some_iff : s.chooseCradle size e = some c ↔ s.isChosen e.cls e.lot size c := by
  have hroom (d : CradleId) : s.hasRoomFor e.cls e.lot size d ↔ s.takesStem size e d = true :=
    State.takesStem_iff.symm
  simp only [State.chooseCradle, Cradle.sum, State.cradle]
  cases hrooma : s.takesStem size e .a <;> cases hroomb : s.takesStem size e .b
  case true.true =>
    by_cases hless : s.cradles.a.placed + s.cradles.a.won + s.cradles.a.tentative
        < s.cradles.b.placed + s.cradles.b.won + s.cradles.b.tentative
    · cases c <;> simp [State.isChosen, hroom, hrooma, hroomb, hless]
    · cases c <;> simp [State.isChosen, hroom, hrooma, hroomb, hless, Nat.le_of_not_lt hless]
  case true.false | false.true => cases c <;> simp [State.isChosen, hroom, hrooma, hroomb]
  case false.false =>
    by_cases hemptya : s.cradles.a.state = .empty
    · cases c <;> simp [State.isChosen, hroom, hrooma, hroomb, hemptya]
    · by_cases hemptyb : s.cradles.b.state = .empty <;>
        cases c <;> simp [State.isChosen, hroom, hrooma, hroomb, hemptya, hemptyb]

/-- A cradle chosen that is not EMPTY is one with room. -/
theorem State.isChosen.hasRoomFor (h : s.isChosen cls lot size c) (hne : (s.cradle c).state ≠ .empty) :
    s.hasRoomFor cls lot size c := by
  cases c with
  | a =>
    rcases h with ⟨hroom, -⟩ | ⟨-, -, hempty⟩
    · exact hroom
    · exact absurd hempty hne
  | b =>
    rcases h with ⟨hroom, -⟩ | ⟨-, -, -, hempty⟩
    · exact hroom
    · exact absurd hempty hne

/-- A stem has one cradle to go to. -/
theorem State.isChosen.unique {d : CradleId} (h : s.isChosen e.cls e.lot size c) (hd : s.isChosen e.cls e.lot size d) :
    d = c :=
  Option.some.inj ((chooseCradle_eq_some_iff.mpr hd).symm.trans (chooseCradle_eq_some_iff.mpr h))

/-! ### The flap gap (R98) -/

theorem withinGap_iff {x y : Slot} : withinGap s.cfg x y = true ↔ s.tooClose x y := by
  simp [withinGap, State.tooClose]

theorem entryCradle_eq_some_iff {st : EntryState} :
    entryCradle st = some c ↔ st = .mine c ∨ ∃ y w, st = .tentative c y w := by
  cases st <;> simp [entryCradle]

theorem handoverFor_eq_some_iff {i : Instr} :
    handoverFor c i = some slot ↔ ∃ period, i = .releaseHandover slot c period := by
  unfold handoverFor
  split
  · next x d period => simp [and_comm]
  · next hother => simpa using fun period h => hother _ _ _ h

/-- What a pass reads of entries, records and hand-overs for a cradle are the slots kept for it (log 21). -/
theorem State.mem_keptSlots_iff : slot ∈ s.claimSlots c ++ s.recordSlots c ↔ s.keptFor c slot := by
  simp only [State.claimSlots, State.recordSlots, State.keptFor, List.mem_append, List.mem_map, List.mem_filter,
    List.mem_filterMap, beq_iff_eq, entryCradle_eq_some_iff, handoverFor_eq_some_iff, Option.mem_toList]
  have hwindow (r : ReleaseRecord) : (s.release.window.bind fun w => w.record) = some r
      ↔ ∃ w, s.release.window = some w ∧ w.record = some r := Option.bind_eq_some_iff
  simp only [hwindow]
  grind

theorem State.gapAllows_iff : s.gapAllows slot c = true ↔ s.gapFree slot c := by
  simp only [State.gapAllows, State.gapFree, Bool.or_eq_true, decide_eq_true_iff, Bool.not_eq_true', List.any_eq_false,
    State.mem_keptSlots_iff, withinGap_iff]

/-! ### RESERVE (R114) -/

/-- The record RESERVE leaves of a cradle with room, or of an EMPTY one. -/
def Cradle.reserved (k : Cradle) (cls lot size : Nat) : Cradle :=
  { k with
    state := if k.sum + 1 = size then .sealed else .opened
    binding := some ⟨cls, lot⟩
    tentative := k.tentative + 1 }

theorem State.bunchSize_of_binding {k : Cradle} (hservice : s.service? cls = some service)
    (hk : k.binding = some ⟨cls, lot⟩) : s.bunchSize k = service.bunchSize := by
  simp [State.bunchSize, hk, hservice]

/-- R118: an OPEN cradle with a claim outstanding and nothing pending is sealed at a whole bunch, and stays as it is
below it. -/
theorem State.judgeCradle_claimed (hstate : (s.cradle c).state = .opened) (hpending : (s.cradle c).pending = .none)
    (hclaim : 0 < (s.cradle c).tentative) (hsum : (s.cradle c).sum ≤ s.bunchSize (s.cradle c)) :
    s.judgeCradle c = s.setCradle c { s.cradle c with
      state := if (s.cradle c).sum = s.bunchSize (s.cradle c) then .sealed else .opened } := by
  have hplaced : (s.cradle c).placed ≠ s.bunchSize (s.cradle c) := by
    unfold Cradle.sum at hsum
    omega
  have hnonzero : (s.cradle c).sum ≠ 0 := by
    unfold Cradle.sum
    omega
  simp only [State.judgeCradle, hpending, hplaced, hnonzero, reduceCtorEq, if_false]
  split
  · rfl
  · simp [State.leaveOpen, State.judgeIdleCloseIfReady, State.idleCloseReady, hstate, hpending, hclaim.ne']

/-- RESERVE counts a claim into the cradle chosen, bound to the stem's class and lot, and seals it at a whole bunch. -/
theorem State.reserve_eq (hservice : s.service? cls = some service) (hchosen : s.isChosen cls lot service.bunchSize c)
    (hsize : 1 ≤ service.bunchSize)
    (hk : ((s.cradle c).state = .opened ∧ (s.cradle c).pending = .none)
      ∨ s.cradle c = { Cradle.emptyRecord with uncertain := (s.cradle c).uncertain }) :
    s.reserve c cls lot = s.setCradle c ((s.cradle c).reserved cls lot service.bunchSize) := by
  obtain ⟨hbound, hpending, hroom⟩ : (if (s.cradle c).state = .empty then (s.cradle c).bind cls lot else s.cradle c)
        = { s.cradle c with state := .opened, binding := some ⟨cls, lot⟩ }
      ∧ (s.cradle c).pending = .none ∧ (s.cradle c).sum < service.bunchSize := by
    rcases hk with ⟨hopen, hpending⟩ | hempty
    · obtain ⟨-, hbinding, hsum⟩ := hchosen.hasRoomFor (by simp [hopen])
      refine ⟨?_, hpending, hsum⟩
      rw [if_neg (by simp [hopen]), ← hopen, ← hbinding]
    · rw [hempty]
      exact ⟨rfl, rfl, hsize⟩
  have hsum : Cradle.sum { s.cradle c with
      state := .opened, binding := some ⟨cls, lot⟩, tentative := (s.cradle c).tentative + 1 }
        = (s.cradle c).sum + 1 := rfl
  have hbunch (k : Cradle) : (s.setCradle c k).bunchSize k = s.bunchSize k := by
    simp [State.bunchSize, State.service?]
  have hsize' : s.bunchSize { s.cradle c with
      state := .opened, binding := some ⟨cls, lot⟩, tentative := (s.cradle c).tentative + 1 }
        = service.bunchSize := State.bunchSize_of_binding hservice rfl
  simp only [State.reserve, hbound]
  rw [State.judgeCradle_claimed (by simp) (by simpa using hpending) (by simp)]
  · simp [hsum, hbunch, hsize', Cradle.reserved]
  · simpa [hsum, hbunch, hsize'] using hroom

/-! ### A claim made (R99 to R101) -/

/-- The n of a key is the sum of the cradle chosen, which is 0 when it is EMPTY. -/
theorem State.claimCount_eq (hk : (s.cradle c).state = .opened ∨ (s.cradle c).sum = 0) :
    s.claimCount c = (s.cradle c).sum := by
  unfold State.claimCount
  split
  case isTrue hempty =>
    rcases hk with hopen | hzero
    · rw [hopen] at hempty
      cases hempty
    · exact hzero.symm
  case isFalse => rfl

/-- The CLAIM of a stem at its joining, with the key of its band and fill. -/
theorem newQueued_claim (cfg : StationConfig) (service : ServiceEntry) (n id : Nat) (slot : Slot) (c : CradleId) :
    newQueued cfg ⟨claimValue service n id, .claim slot c⟩
      = ⟨⟨24576 + ((if service.secondary = true then 0 else if n + 1 = service.bunchSize then 3
          else if 1 ≤ n then 2 else 1) * 32 + 31 * n / service.bunchSize) * 64 + id, .claim slot c⟩,
        some cfg.claimHorizon, 0, false, none⟩ := rfl

theorem State.offer_claim_joined {f : Frame} (ha : s.offersAccepted) (hf : claimSlot f.body = some slot)
    (hroom : s.bus.queue.length < 16) (hnone : ∀ q ∈ s.bus.queue, claimSlot q.frame.body ≠ some slot) :
    s.offer f = (.joined, s.enqueue f) := by
  have hqueued : claimQueued s.bus.queue slot = false := by simpa [claimQueued, isClaimFor] using hnone
  simp [State.offer, ha, hf, hqueued, queueCapacity, hroom]

theorem State.offer_claim_refused {f : Frame} (hf : claimSlot f.body = some slot)
    (hsome : ∃ q ∈ s.bus.queue, claimSlot q.frame.body = some slot) : s.offer f = (.refused, s) := by
  have hqueued : claimQueued s.bus.queue slot = true := by simpa [claimQueued, isClaimFor] using hsome
  simp [State.offer, hf, hqueued]

/-- The state that stands when a claim's CLAIM is offered. -/
def State.claimMade (s : State) (e : FlightEntry) (c : CradleId) : State :=
  (s.reserve c e.cls e.lot).setEntry e.slot (.tentative c none none)

theorem State.claimMade_frame : (s.claimMade e c).bus = s.bus ∧ (s.claimMade e c).loader = s.loader := by
  simp [State.claimMade]

theorem State.claim_joined (ha : s.offersAccepted) (hroom : s.bus.queue.length < 16)
    (hnone : ∀ q ∈ s.bus.queue, claimSlot q.frame.body ≠ some e.slot) : s.claim e service c
      = (s.claimMade e c).enqueue ⟨claimValue service (s.claimCount c) s.stationId, .claim e.slot c⟩ := by
  obtain ⟨hbus, hloader⟩ := s.claimMade_frame (e := e) (c := c)
  have hoffer := State.offer_claim_joined (s := s.claimMade e c)
    (f := ⟨claimValue service (s.claimCount c) s.stationId, .claim e.slot c⟩) (slot := e.slot)
    (by rwa [State.offersAccepted, hloader]) rfl (by rwa [hbus]) (by rwa [hbus])
  rw [State.claimMade] at hoffer
  simp only [State.claim, hoffer, State.claimMade]

/-- A claim that joins adds one frame to the queue, its own. -/
theorem State.claim_joined_queue (ha : s.offersAccepted) (hroom : s.bus.queue.length < 16)
    (hnone : ∀ q ∈ s.bus.queue, claimSlot q.frame.body ≠ some e.slot) : (s.claim e service c).bus.queue.Perm
      (newQueued s.cfg ⟨claimValue service (s.claimCount c) s.stationId, .claim e.slot c⟩ :: s.bus.queue) := by
  obtain ⟨hbus, hloader⟩ := s.claimMade_frame (e := e) (c := c)
  have hcfg : (s.claimMade e c).cfg = s.cfg := by rw [State.cfg, hloader, State.cfg]
  rw [State.claim_joined ha hroom hnone, State.enqueue_bus, hcfg, hbus]
  exact insertByValue_perm _ _

theorem State.claim_refused (hsome : ∃ q ∈ s.bus.queue, claimSlot q.frame.body = some e.slot) :
    s.claim e service c = (((s.reserve c e.cls e.lot).setEntry e.slot .unclaimed).hand (.returnCount c)).bump
      .claimsWithdrawn := by
  obtain ⟨hbus, -⟩ := s.claimMade_frame (e := e) (c := c)
  have hoffer := State.offer_claim_refused (s := s.claimMade e c)
    (f := ⟨claimValue service (s.claimCount c) s.stationId, .claim e.slot c⟩) (slot := e.slot) rfl (by rwa [hbus])
  rw [State.claimMade] at hoffer
  simp only [State.claim, hoffer]
  rw [State.withdrawNow_eq rfl, State.setEntry_setEntry]

/-! ### One entry judged (R92) -/

theorem State.judgeEntry_absent (he : s.entry? slot = none) : s.judgeEntry slot = s := by
  simp [State.judgeEntry, he]

theorem State.judgeEntry_unserved (he : s.entry? slot = some e) (hservice : s.service? e.cls = none) :
    s.judgeEntry slot = s := by
  simp [State.judgeEntry, he, hservice]

theorem State.judgeEntry_no_candidate (he : s.entry? slot = some e) (hservice : s.service? e.cls = some service)
    (h : ¬ (s.isCandidate e service = true ∧ s.queueHasRoom = true)) : s.judgeEntry slot = s := by
  simp only [State.judgeEntry, he, hservice, if_neg h]

/-- R93, R95: what leaves an entry alone before its cradle is looked for, whatever its service entry says. -/
theorem State.judgeEntry_rests (he : s.entry? slot = some e) (h : (∀ x ∈ s.cfg.services, x.cls ≠ e.cls)
      ∨ s.loader.mode ≠ .active ∨ s.engine.held = true ∨ s.flag .txFault = true ∨ s.tracker.state ≠ .tracking
      ∨ (e.state ≠ .unclaimed ∧ e.state ≠ .yielded) ∨ s.rem slot ≤ s.cfg.claimHorizon ∨ s.cfg.depth < s.rem slot
      ∨ 16 ≤ s.bus.queue.length) : s.judgeEntry slot = s := by
  cases hservice : s.service? e.cls with
  | none => exact State.judgeEntry_unserved he hservice
  | some service =>
    have hserved : ¬ ∀ x ∈ s.cfg.services, x.cls ≠ e.cls := fun hnone =>
      hnone service (List.mem_of_find?_eq_some hservice) (by simpa using List.find?_some hservice)
    refine State.judgeEntry_no_candidate he hservice ?_
    rw [State.isCandidate_iff, State.queueHasRoom_iff, State.entry?_slot he]
    rintro ⟨⟨hmode, hheld, hfault, htracking, hstate, hrem, -⟩, hroom⟩
    rcases h with h | h | h | h | h | ⟨hu, hy⟩ | h | h | h
    · exact hserved h
    · exact h hmode
    · simp [hheld] at h
    · simp [hfault] at h
    · exact h htracking
    · exact hstate.elim hu hy
    all_goals omega

/-- R94: a secondary entry beyond Hc + Sd is left alone. -/
theorem State.judgeEntry_beyond_window (he : s.entry? slot = some e) (hservice : s.service? e.cls = some service)
    (hsecondary : service.secondary = true) (hfar : s.cfg.claimHorizon + s.cfg.secondaryDepth < s.rem slot) :
    s.judgeEntry slot = s := by
  refine State.judgeEntry_no_candidate he hservice fun ⟨hcandidate, _⟩ => ?_
  obtain ⟨-, -, -, -, -, -, hwindow⟩ := State.isCandidate_iff.mp hcandidate
  rw [State.entry?_slot he] at hwindow
  rcases hwindow with hprimary | hwithin
  · simp [hsecondary] at hprimary
  · omega

/-- An entry that finds no cradle, or a flap gap too small for each it would go to, is left alone. -/
theorem State.judgeEntry_no_cradle (he : s.entry? slot = some e) (hservice : s.service? e.cls = some service)
    (h : ∀ c, s.isChosen e.cls e.lot service.bunchSize c → ¬ s.gapFree slot c) : s.judgeEntry slot = s := by
  simp only [State.judgeEntry, he, hservice]
  split
  · split
    · rfl
    · next c hc =>
      rw [if_neg fun hgap => h c (State.chooseCradle_eq_some_iff.mp hc) ?_]
      rw [← State.entry?_slot he]
      exact State.gapAllows_iff.mp hgap
  · rfl

theorem State.judgeEntry_claims (he : s.entry? slot = some e) (hservice : s.service? e.cls = some service)
    (hcandidate : s.isCandidate e service = true) (hroom : s.queueHasRoom = true)
    (hchosen : s.isChosen e.cls e.lot service.bunchSize c) (hgap : s.gapFree slot c) :
    s.judgeEntry slot = s.claim e service c := by
  have hallows : s.gapAllows e.slot c = true := by
    rw [State.entry?_slot he]
    exact State.gapAllows_iff.mpr hgap
  simp only [State.judgeEntry, he, hservice, if_pos (And.intro hcandidate hroom),
    State.chooseCradle_eq_some_iff.mpr hchosen, if_pos hallows]

/-! ### The pass (R90) -/

theorem exec_passRequest_discarded (h : s.loader.mode ≠ .active ∨ s.engine.held = true) :
    exec .passRequest s = .next (s.taken .passRequest) := by
  refine congrArg Host.Outcome.next (if_neg ?_)
  rintro ⟨⟨-, hmode⟩, hheld⟩
  rcases h with h | h
  · exact h hmode
  · exact Bool.noConfusion (hheld.symm.trans h)

theorem exec_passRequest_runs (h : s.dropActive) (hheld : s.engine.held = false) :
    exec .passRequest s = .next (s.taken .passRequest).runPass :=
  congrArg Host.Outcome.next (if_pos ⟨h, hheld⟩)

/-- Settles O43: a pass is a walk of `judgeEntry`, which is taken apart by candidate, cradle, flap gap and the queue's
answer to the CLAIM. -/
theorem passClaimsACandidate : Obligations.PassClaimsACandidate := by
  refine ⟨fun s _ h => exec_passRequest_discarded h,
    fun s hrole hmode hheld => exec_passRequest_runs ⟨hrole, hmode⟩ hheld,
    fun s slot he => State.judgeEntry_absent he, fun s slot e he => ⟨fun h => State.judgeEntry_rests he h, ?_⟩⟩
  rintro service size hservice rfl
  refine ⟨fun hsecondary hfar => State.judgeEntry_beyond_window he hservice hsecondary hfar,
    fun hnone => State.judgeEntry_no_cradle he hservice fun c hchosen => absurd hchosen (hnone c),
    fun c hchosen hshut => State.judgeEntry_no_cradle he hservice fun d hd => ?_,
    fun c k n reserved hmode hheld hfault htracking hstate hnear hdeep hband hroom hchosen hgap hsize hk hrecord hn
      hreserved => ?_⟩
  · rwa [hchosen.unique hd]
  · obtain rfl := State.entry?_slot he
    subst hk hn hreserved
    have hclaims : s.judgeEntry e.slot = s.claim e service c := State.judgeEntry_claims he hservice
      (State.isCandidate_iff.mpr ⟨hmode, hheld, hfault, htracking, hstate, ⟨hnear, hdeep⟩, hband⟩)
      (State.queueHasRoom_iff.mpr hroom) hchosen hgap
    have hreserve := State.reserve_eq hservice hchosen hsize hrecord
    have hcount : s.claimCount c = (s.cradle c).sum :=
      State.claimCount_eq (hrecord.imp And.left fun hempty => by rw [hempty]; rfl)
    refine ⟨fun hnone => ⟨_, hclaims, ?_, ?_⟩, fun hsome => ?_⟩
    · have hqueue := State.claim_joined_queue (service := service) (c := c) (.inr hmode) hroom hnone
      rwa [hcount, newQueued_claim] at hqueue
    · rw [State.claim_joined (.inr hmode) hroom hnone, State.claimMade, hreserve]
      cases c <;> rfl
    · rw [hclaims, State.claim_refused hsome, hreserve]
      cases c <;> rfl

end Sys2Proof.Machine
end


section
/-! SUPPORT. Proofs of the statements on cradles and bunches: the records the entries to READY and EMPTY leave, the moves
a command makes on the cradles, the tie queue and the sums under every command, and each operation by its rows. -/

namespace Sys2Proof.Machine

variable {s t : State} {c d : CradleId}

/-! ### The entry to READY (R119) -/

theorem State.enterReady_cradles : (s.enterReady c).cradles
    = { (s.setCradle c ((s.cradle c).readyRecord (s.bunchSize (s.cradle c)) (s.cradles.bunchSequence + 1#16))).cradles with
      bunchSequence := s.cradles.bunchSequence + 1#16, tieQueue := s.cradles.tieQueue ++ [c] } := by
  unfold State.enterReady
  split <;> simp

theorem State.cradle_of_cradles (h : t.cradles = s.cradles) (c : CradleId) : t.cradle c = s.cradle c := by
  cases c <;> simp [State.cradle, h]

theorem State.enterReady_cradle : (s.enterReady c).cradle c
    = (s.cradle c).readyRecord (s.bunchSize (s.cradle c)) (s.cradles.bunchSequence + 1#16) := by
  cases c <;> simp [State.cradle, State.enterReady_cradles, State.setCradle]

theorem State.enterReady_cradle_ne (h : d ≠ c) : (s.enterReady c).cradle d = s.cradle d := by
  rw [← s.setCradle_cradle_ne ((s.cradle c).readyRecord (s.bunchSize (s.cradle c)) (s.cradles.bunchSequence + 1#16)) h]
  cases d <;> simp [State.cradle, State.enterReady_cradles]

theorem State.enterReady_tieQueue : (s.enterReady c).cradles.tieQueue = s.cradles.tieQueue ++ [c] := by
  rw [State.enterReady_cradles]

theorem State.enterReady_handed : (s.enterReady c).handed
    = s.handed ++ if s.cradles.tieQueue = [] then [.queueNotice] else [] := by
  unfold State.enterReady
  split <;> simp [*]

/-- R119: full or short by the placed count, one of the two counted. -/
theorem State.enterReady_status : (s.enterReady c).status = (s.bump
    (if (s.cradle c).placed < s.bunchSize (s.cradle c) then .shortBunches else .fullBunches)).status := by
  unfold State.enterReady
  split <;> simp

theorem State.enterReady_counter (n : CounterName) : (s.enterReady c).counter n = (s.bump
    (if (s.cradle c).placed < s.bunchSize (s.cradle c) then .shortBunches else .fullBunches)).counter n := by
  rw [State.counter, State.enterReady_status]
  rfl

/-- R120: the EMPTY values and a pass request. -/
theorem State.enterEmpty_eq : s.enterEmpty c
    = { s.setCradle c Cradle.emptyRecord with handed := s.handed ++ [.passRequest] } := by
  cases c <;> rfl

/-- R119 step 4, R133: the contents of the tie command after the entry to READY. -/
theorem tieRecordOf_readyRecord {k : Cradle} {b : Binding} (h : k.binding = some b) (size : Nat) (bunch : Word16) :
    tieRecordOf c (k.readyRecord size bunch)
      = ⟨c, b.cls, b.lot, k.placed, bunch, decide (k.placed < size), k.uncertain⟩ := by
  simp [tieRecordOf, Cradle.readyRecord, h]

/-- Settles O45: the entry to READY field by field, and the EMPTY values. -/
theorem readyAndEmptyEntries : Obligations.ReadyAndEmptyEntries := by
  rintro s c k rfl
  refine ⟨⟨_, rfl, State.enterReady_cradle, State.enterReady_cradle_ne (by cases c <;> decide), ?_,
    State.enterReady_tieQueue, ?_, ?_, State.enterReady_handed, fun n hshort hfull => ?_, ?_, ?_, ?_, fun b hb => ?_⟩,
    rfl, ?_, State.enterEmpty_eq⟩
  · rw [State.enterReady_cradles]
  · rw [State.enterReady_counter]
    split <;> simp
  · rw [State.enterReady_counter]
    split <;> simp
  · rw [State.enterReady_counter]
    split <;> simp [hshort, hfull]
  · rw [State.enterReady_status]
    simp
  · obtain ⟨hpins, hloader, htracker, hbus, hgauge, htable, hengine, hrelease, htie, hnow, hpending⟩ :=
      s.enterReady_frame c
    rw [← hpins, ← hloader, ← htracker, ← hbus, ← hgauge, ← htable, ← hengine, ← hrelease, ← htie, ← hnow, ← hpending]
  · rw [State.enterReady_cradles]
    simp
  · rw [State.enterReady_cradle]
    exact tieRecordOf_readyRecord hb _ _
  · rw [State.enterReady_cradle]
    rfl

end Sys2Proof.Machine
end

section
namespace Sys2Proof.Machine

variable {s t u : State} {c d : CradleId}

/-! ### The moves of a cradle (R113) -/

/-- The cradle is one the tie queue holds (R132). -/
abbrev Cradle.awaitsTie (k : Cradle) : Prop := k.state = .ready ∨ k.state = .tying

/-- One move of the cradles, by what the tie queue (R132) and the sums (R113) read of it. -/
inductive State.CradleMove : State → State → Prop
  /-- Records, tie queue and configuration stay. -/
  | alike {s t : State} (hcradle : ∀ c, t.cradle c = s.cradle c) (hqueue : t.cradles.tieQueue = s.cradles.tieQueue)
      (hrecord : t.loader.record = s.loader.record) : CradleMove s t
  /-- An idle count or a mark (R121, R122, R135). -/
  | marked {s : State} {c : CradleId} {k : Cradle} (hstate : k.state = (s.cradle c).state)
      (hbinding : k.binding = (s.cradle c).binding) (hsum : k.sum = (s.cradle c).sum) : CradleMove s (s.setCradle c k)
  /-- A count operation, a seal, a close or a void on an OPEN or SEALED cradle (R115 to R118, R124, R129). -/
  | counted {s : State} {c : CradleId} {k : Cradle} (hfrom : (s.cradle c).countable) (hto : k.countable)
      (hbinding : k.binding = (s.cradle c).binding) (hsum : k.sum ≤ (s.cradle c).sum) : CradleMove s (s.setCradle c k)
  /-- RESERVE on an EMPTY cradle, or on an OPEN one with room (R96, R114). -/
  | reserved {s : State} {c : CradleId} {k : Cradle} {cls lot : Nat} {service : ServiceEntry}
      (hservice : s.service? cls = some service)
      (hfrom : (s.cradle c).state = .empty ∨ ((s.cradle c).state = .opened ∧ (s.cradle c).sum < service.bunchSize))
      (hto : k.countable) (hbinding : k.binding = some ⟨cls, lot⟩) (hsum : k.sum = (s.cradle c).sum + 1) :
      CradleMove s (s.setCradle c k)
  /-- The entry to EMPTY of a cradle outside the tie queue (R120). -/
  | emptied {s : State} {c : CradleId} (hfrom : (s.cradle c).countable ∨ (s.cradle c).state = .faulted) :
      CradleMove s (s.enterEmpty c)
  /-- The entry to READY (R119). -/
  | readied {s : State} {c : CradleId} (hfrom : (s.cradle c).countable) : CradleMove s (s.enterReady c)
  /-- A tie starts on the READY head (R155). -/
  | tieStarted {s : State} {c : CradleId} (hhead : s.readyHead = some c) :
      CradleMove s (s.setCradle c { s.cradle c with state := .tying })
  /-- A clear or a tie result takes the cradle from the tie queue, to EMPTY or FAULTED (R128, R134). -/
  | tieLeft {s : State} {c : CradleId} {k : Cradle} (hfrom : (s.cradle c).awaitsTie)
      (hto : k = Cradle.emptyRecord ∨ k = { s.cradle c with state := .faulted }) :
      CradleMove s ((s.leaveTieQueue c).setCradle c k)

/-- The cradles go from one state to another by moves of theirs. -/
abbrev State.CradleMoves : State → State → Prop := Relation.ReflTransGen State.CradleMove

theorem State.cradleMoves_of_cradles (h : t.cradles = s.cradles) (hrecord : t.loader.record = s.loader.record) :
    s.CradleMoves t :=
  .single (.alike (State.cradle_of_cradles h) (by rw [h]) hrecord)

/-- A hand-over, a count or a flag after moves of the cradles. -/
theorem State.CradleMoves.then_alike (h : s.CradleMoves t) (hcradles : u.cradles = t.cradles)
    (hloader : u.loader = t.loader) : s.CradleMoves u :=
  h.trans (State.cradleMoves_of_cradles hcradles (by rw [hloader]))

theorem cradleMoves_ite {p : Prop} [Decidable p] {a b : State} (ha : p → s.CradleMoves a)
    (hb : ¬ p → s.CradleMoves b) : s.CradleMoves (if p then a else b) := by
  split
  case isTrue hp => exact ha hp
  case isFalse hn => exact hb hn

/-! ### Judgments (R118, R122) -/

theorem State.judgeIdleClose_moves (hopen : (s.cradle c).state = .opened) : s.CradleMoves (s.judgeIdleClose c) :=
  cradleMoves_ite (fun _ => .single (.readied (.inl hopen)))
    fun _ => State.CradleMoves.then_alike
      (t := s.setCradle c { s.cradle c with idleDue := false, stale := true }) (.single (.marked rfl rfl rfl)) rfl rfl

theorem State.judgeIdleCloseIfReady_moves : s.CradleMoves (s.judgeIdleCloseIfReady c) :=
  cradleMoves_ite (fun ⟨hopen, _⟩ => State.judgeIdleClose_moves hopen) fun _ => .refl

theorem State.marked_judged_moves {k : Cradle} (hstate : k.state = (s.cradle c).state)
    (hbinding : k.binding = (s.cradle c).binding) (hsum : k.sum = (s.cradle c).sum) :
    s.CradleMoves ((s.setCradle c k).judgeIdleCloseIfReady c) :=
  .head (.marked hstate hbinding hsum) State.judgeIdleCloseIfReady_moves

theorem State.leaveOpen_moves (hk : (s.cradle c).countable) : s.CradleMoves (s.leaveOpen c) := by
  have hopened : s.CradleMoves (s.setCradle c { s.cradle c with state := .opened }) :=
    .single (.counted hk (.inl rfl) rfl (le_refl _))
  exact (cradleMoves_ite (fun _ => hopened.then_alike (State.hand_cradles _ _) (State.hand_loader _ _))
    fun _ => hopened).trans State.judgeIdleCloseIfReady_moves

theorem State.judgeCradle_moves (hk : (s.cradle c).countable) : s.CradleMoves (s.judgeCradle c) := by
  rcases s.judgeCradle_cases c with hempty | hready | hsame | hsealed | hopen
  · exact hempty ▸ .single (.emptied (.inl hk))
  · exact hready ▸ .single (.readied hk)
  · exact hsame.symm ▸ .refl
  · exact hsealed ▸ .single (.counted hk (.inr rfl) rfl (le_refl _))
  · exact hopen ▸ State.leaveOpen_moves hk

/-! ### Count operations (R114 to R117) -/

/-- A record with no greater sum, then the judgment. -/
theorem State.counted_judged_moves {k : Cradle} (hfrom : (s.cradle c).countable) (hto : k.countable)
    (hbinding : k.binding = (s.cradle c).binding) (hsum : k.sum ≤ (s.cradle c).sum) :
    s.CradleMoves ((s.setCradle c k).judgeCradle c) :=
  .head (.counted hfrom hto hbinding hsum) (State.judgeCradle_moves (by rwa [State.setCradle_cradle]))

theorem Cradle.sum_placeOne_le {k : Cradle} (h : 0 < k.won) : k.placeOne.sum ≤ k.sum := by
  simp only [Cradle.sum, Cradle.placeOne]
  split <;> omega

theorem State.countWin_moves : s.CradleMoves (s.countWin c) :=
  cradleMoves_ite (fun ⟨hk, htentative⟩ => State.counted_judged_moves hk hk rfl
    (by simp only [Cradle.sum]; omega)) fun _ => .refl

theorem State.countReturn_moves : s.CradleMoves (s.countReturn c) :=
  cradleMoves_ite (fun ⟨hk, _⟩ => State.counted_judged_moves hk hk rfl
    (Nat.add_le_add_left (Nat.sub_le _ _) _)) fun _ => .refl

theorem State.countMiss_moves : s.CradleMoves (s.countMiss c) :=
  cradleMoves_ite (fun ⟨hk, _⟩ => State.counted_judged_moves hk hk rfl
    (by simp only [Cradle.sum]; omega)) fun _ => .refl

theorem State.countPlace_moves : s.CradleMoves (s.countPlace c) :=
  cradleMoves_ite (fun ⟨hk, hwon⟩ => State.counted_judged_moves hk hk rfl (Cradle.sum_placeOne_le hwon))
    fun _ => .refl

/-- A record with one claim more, then the judgment. -/
theorem State.reserved_judged_moves {k : Cradle} {cls lot : Nat} {service : ServiceEntry}
    (hservice : s.service? cls = some service)
    (hfrom : (s.cradle c).state = .empty ∨ ((s.cradle c).state = .opened ∧ (s.cradle c).sum < service.bunchSize))
    (hto : k.countable) (hbinding : k.binding = some ⟨cls, lot⟩) (hsum : k.sum = (s.cradle c).sum + 1) :
    s.CradleMoves ((s.setCradle c k).judgeCradle c) :=
  .head (.reserved hservice hfrom hto hbinding hsum) (State.judgeCradle_moves (by rwa [State.setCradle_cradle]))

/-- R114: RESERVE in the cradle a pass has chosen. -/
theorem State.reserve_moves {cls lot : Nat} {service : ServiceEntry} (hservice : s.service? cls = some service)
    (hchosen : s.isChosen cls lot service.bunchSize c) : s.CradleMoves (s.reserve c cls lot) := by
  by_cases hempty : (s.cradle c).state = .empty
  · simp only [State.reserve, if_pos hempty]
    exact State.reserved_judged_moves hservice (.inl hempty) (.inl rfl) rfl rfl
  · obtain ⟨hopen, hbinding, hroom⟩ := hchosen.hasRoomFor hempty
    simp only [State.reserve, if_neg hempty]
    exact State.reserved_judged_moves hservice (.inr ⟨hopen, hroom⟩) (.inl hopen) hbinding rfl

/-! ### Idle counts, closes, clears (R121, R124, R128) -/

theorem State.countIdle_moves : s.CradleMoves (s.countIdle c) :=
  cradleMoves_ite (fun _ => cradleMoves_ite
    (fun _ => State.marked_judged_moves rfl rfl rfl) fun _ => .single (.marked rfl rfl rfl))
    fun _ => .refl

theorem State.closeCradle_moves : s.CradleMoves (s.closeCradle c) :=
  cradleMoves_ite
    (fun hopen => cradleMoves_ite (fun _ => .single (.readied (.inl hopen)))
      fun _ => .single (.counted (.inl hopen) (.inr rfl) rfl (le_refl _)))
    fun _ => cradleMoves_ite (fun _ => .single (.marked rfl rfl rfl)) fun _ => .refl

theorem State.closeCradleOfLot_moves (lotNo : Nat) : s.CradleMoves (s.closeCradleOfLot lotNo c) := by
  unfold State.closeCradleOfLot
  split
  · exact .refl
  · exact cradleMoves_ite (fun _ => State.closeCradle_moves) fun _ => .refl

@[simp] theorem State.noticeHead_cradles : s.noticeHead.cradles = s.cradles := by
  unfold State.noticeHead
  split <;> rfl

theorem State.clearReady_moves (hready : (s.cradle c).state = .ready) : s.CradleMoves (s.clearReady c) := by
  have hleft : s.CradleMoves ((s.leaveTieQueue c).setCradle c Cradle.emptyRecord) :=
    .single (.tieLeft (.inl hready) (.inl rfl))
  exact cradleMoves_ite (fun _ => hleft.then_alike (by simp [State.enterEmpty]) (by simp))
    fun _ => hleft.then_alike rfl (by simp)

theorem State.clearBound_moves (hk : (s.cradle c).countable) : s.CradleMoves (s.clearBound c) := by
  have hvoided : s.CradleMoves (s.setCradle c (s.cradle c).voidRecord) :=
    .single (.counted hk (.inr rfl) rfl (by simp only [Cradle.sum, Cradle.voidRecord]; omega))
  have hnoticed : s.CradleMoves (((s.setCradle c (s.cradle c).voidRecord).bump .voidedBunches).handAll
      [.clearNoticeFlightTable c, .clearNoticeRelease c]) := hvoided.then_alike rfl rfl
  refine hnoticed.trans (State.judgeCradle_moves ?_)
  change ((s.setCradle c (s.cradle c).voidRecord).cradle c).countable
  rw [State.setCradle_cradle]
  exact .inr rfl

theorem State.clearCradle_moves : s.CradleMoves (s.clearCradle c) := by
  unfold State.clearCradle
  split
  case h_1 | h_2 => exact .refl
  case h_3 hready => exact State.clearReady_moves hready
  case h_4 hfaulted => exact .single (.emptied (.inr hfaulted))
  case h_5 hopen => exact State.clearBound_moves (.inl hopen)
  case h_6 hsealed => exact cradleMoves_ite (fun _ => .refl) fun _ => State.clearBound_moves (.inr hsealed)

/-! ### Ties (R134, R155) -/

theorem State.takeTieResult_moves (code : TieCode) : s.CradleMoves (s.takeTieResult c code) := by
  refine cradleMoves_ite (fun htying => ?_) fun _ => .refl
  have hleft {k : Cradle} (hk : k = Cradle.emptyRecord ∨ k = { s.cradle c with state := .faulted }) :
      s.CradleMoves ((s.leaveTieQueue c).setCradle c k) := .single (.tieLeft (.inr htying) hk)
  cases code with
  | tied | rework => exact (hleft (.inl rfl)).then_alike (by simp [State.enterEmpty]) (by simp)
  | quit | noAck | timeout => exact (hleft (.inr rfl)).then_alike (by simp; rfl) (by simp)

theorem State.startTie_moves (hhead : s.readyHead = some c) : s.CradleMoves (s.startTie c) :=
  State.CradleMoves.then_alike (.single (.tieStarted hhead)) rfl rfl

theorem State.judgeTieStart_moves : s.CradleMoves s.judgeTieStart := by
  refine cradleMoves_ite (fun _ => ?_) fun _ => .refl
  split
  · exact .refl
  · next c hhead => exact State.startTie_moves hhead

theorem State.endTie_moves (code : TieCode) : s.CradleMoves (s.endTie code) := by
  refine .trans (State.cradleMoves_of_cradles ?_ ?_) State.judgeTieStart_moves <;> split <;> rfl

theorem State.takeStatusWord_moves (word : Word16) : s.CradleMoves (s.takeStatusWord word) := by
  refine .trans (State.cradleMoves_of_cradles ?_ ?_) (State.endTie_moves _) <;> simp

/-! ### The candidacy pass (R92, R101) -/

theorem State.cradles_loader_of_offer {f : Frame} {answer : OfferAnswer} (h : s.offer f = (answer, t)) :
    t.cradles = s.cradles ∧ t.loader = s.loader := by
  have hframe := s.offer_frame f
  rw [h] at hframe
  obtain ⟨-, hloader, -, -, -, -, hcradles, -⟩ := hframe
  exact ⟨hcradles, hloader⟩

theorem State.claim_moves {e : FlightEntry} {service : ServiceEntry} (hservice : s.service? e.cls = some service)
    (hchosen : s.isChosen e.cls e.lot service.bunchSize c) : s.CradleMoves (s.claim e service c) := by
  have hmade : s.CradleMoves ((s.reserve c e.cls e.lot).setEntry e.slot (.tentative c none none)) :=
    (State.reserve_moves hservice hchosen).then_alike rfl rfl
  unfold State.claim
  dsimp only
  split <;> next answer =>
    obtain ⟨hcradles, hloader⟩ := State.cradles_loader_of_offer answer
    exact hmade.then_alike (by simp [hcradles]) (by simp [hloader])

theorem State.judgeEntry_moves (slot : Slot) : s.CradleMoves (s.judgeEntry slot) := by
  unfold State.judgeEntry
  split
  · exact .refl
  · split
    · exact .refl
    · next service hservice =>
      refine cradleMoves_ite (fun _ => ?_) fun _ => .refl
      split
      · exact .refl
      · next c hchosen =>
        exact cradleMoves_ite (fun _ => State.claim_moves hservice (State.chooseCradle_eq_some_iff.mp hchosen))
          fun _ => .refl

theorem State.runPass_moves : s.CradleMoves s.runPass :=
  foldl_keeps (fun t => s.CradleMoves t) _ (fun _ slot h => h.trans (State.judgeEntry_moves slot)) _ _ .refl

end Sys2Proof.Machine
end

section
namespace Sys2Proof.Machine

variable {s t : State} {c : CradleId}

/-! ### The cradles under the operations of other blocks -/

/-- A walk whose every stride leaves the cradles leaves them. -/
theorem foldl_cradles {α : Type} (f : State → α → State) (hf : ∀ t a, (f t a).cradles = t.cradles) (l : List α)
    (s : State) : (l.foldl f s).cradles = s.cradles :=
  foldl_keeps (fun t => t.cradles = s.cradles) f (fun t a h => (hf t a).trans h) l s rfl

@[simp] theorem State.takeCarrierNotice_cradles (here : Slot) : (s.takeCarrierNotice here).cradles = s.cradles :=
  foldl_cradles _ (by simp) _ _

@[simp] theorem State.claimDeadlines_cradles (here : Slot) : (s.claimDeadlines here).cradles = s.cradles :=
  foldl_cradles _ (by simp) _ _

@[simp] theorem State.ordinaryArrival_cradles (a : Arrival) : (s.ordinaryArrival a).cradles = s.cradles := by
  simp [State.ordinaryArrival, foldl_cradles]

@[simp] theorem State.slipArrival_cradles (a : Arrival) : (s.slipArrival a).cradles = s.cradles := by
  simp [State.slipArrival, State.replace, foldl_cradles]

@[simp] theorem State.giveBackAll_cradles (reason : YieldReason) : (s.giveBackAll reason).cradles = s.cradles :=
  foldl_cradles _ (by simp) _ _

@[simp] theorem State.giveBackCradle_cradles (c : CradleId) : (s.giveBackCradle c).cradles = s.cradles :=
  foldl_cradles _ (by simp) _ _

@[simp] theorem State.workWatch_cradles (here : Slot) : (s.workWatch here).cradles = s.cradles :=
  foldl_cradles _ (by simp) _ _

@[simp] theorem State.noteCut_cradles (results : List (Option ScanResult)) : (s.noteCut results).cradles = s.cradles :=
  foldl_cradles _ (fun t r => by split <;> simp) _ _

@[simp] theorem State.cutWindow_cradles : s.cutWindow.cradles = s.cradles := by
  unfold State.cutWindow
  split <;> simp

@[simp] theorem State.openMeasure_cradles (a : Arrival) : (s.openMeasure a).cradles = s.cradles := rfl

@[simp] theorem State.cancelCleared_cradles (c : CradleId) : (s.cancelCleared c).cradles = s.cradles := by
  unfold State.cancelCleared
  (repeat' split) <;> simp

@[simp] theorem State.missAcknowledge_cradles : s.missAcknowledge.cradles = s.cradles := by
  unfold State.missAcknowledge
  (repeat' split) <;> rfl

@[simp] theorem State.retryRead_cradles : s.retryRead.cradles = s.cradles := by
  unfold State.retryRead
  split <;> rfl

theorem State.cradles_of_requestRemoval {b : FrameBody} {answer : RemovalAnswer}
    (h : s.requestRemoval b = (answer, t)) : t.cradles = s.cradles := by
  have hframe := s.requestRemoval_frame b
  rw [h] at hframe
  obtain ⟨-, -, -, -, -, -, hcradles, -⟩ := hframe
  exact hcradles

theorem execRemovalRequest_cradles (body : FrameBody) :
    ∃ t, execRemovalRequest body s = .next t ∧ t.cradles = s.cradles := by
  refine ⟨_, rfl, ?_⟩
  split
  · split <;> next answer => simp [State.cradles_of_requestRemoval answer]
  · rfl

/-! ### The commands that move a cradle -/

/-- The commands of the Cradle Manager, the Claim Engine's pass, the Tie Port's judgments of a start and ends of a tie,
the clear filters' inputs, the notices with a held copy, and those that take a configuration in or out of use. -/
def movesCradles : Instr → Bool
  | .reset | .recordReadComplete _ | .modeNotice _ _ | .haltNotice _ _ => true
  | .filterInputAsserted _ | .filterInputReleased _ => true
  | .passRequest => true
  | .win _ | .returnCount _ | .miss _ | .place _ | .cradleCarrierArrival _ | .closeLot _ | .holdNoticeCradle _ => true
  | .clear _ | .tieResult _ _ | .uncertainMark _ => true
  | .queueNotice | .holdNoticeTiePort _ | .ackLimitExpiry | .tieLimitExpiry | .statusWordComplete _ => true
  | _ => false

/-- Every other command leaves the Cradle Manager alone. -/
theorem exec_cradles (i : Instr) (hi : movesCradles i = false) : ∃ t, exec i s = .next t ∧ t.cradles = s.cradles := by
  cases i with
  | reset | recordReadComplete _ | modeNotice _ _ | haltNotice _ _ | filterInputAsserted _ | filterInputReleased _
  | passRequest | win _ | returnCount _ | miss _ | place _ | cradleCarrierArrival _ | closeLot _ | holdNoticeCradle _
  | clear _ | tieResult _ _ | uncertainMark _ | queueNotice | holdNoticeTiePort _ | ackLimitExpiry | tieLimitExpiry
  | statusWordComplete _ => cases hi
  -- the loader, the inputs and the tracker
  | resetRelease _ _ | announceTimerExpiry | stall | holdLevelChange _ => exact ⟨_, rfl, by split <;> rfl⟩
  | memoryNoAcknowledge | retryWaitExpiry | helloOutcome _ | filteredGateEdge =>
    exact ⟨_, rfl, by (repeat' split) <;> simp⟩
  | cpQualification _ => exact ⟨_, rfl, by split <;> simp [State.setFilter]⟩
  -- the line and its queue
  | removalRequest body => exact execRemovalRequest_cradles body
  | idleGapComplete | dominantLevelInWaitGap | contentionWindow | contentionLost | contentionDriveFailed | contentionWon
  | spoil | frameSent | frameHeard _ | frameDiscarded _ | stuckEntry | stuckExit | carrierNotice _ =>
    exact ⟨_, rfl, by (repeat' split) <;> simp⟩
  -- the gauge
  | gaugeCarrierArrival _ | scanDue _ | srdyAsserted | scanRecordComplete _ | responseLimitExpiry | lotPress
  | gaugeStemHeard _ _ | gaugeClaimHeard _ | gaugeYieldHeard _ | stemOutcome _ _ | lotOutcome _ _ _ =>
    exact ⟨_, rfl, by (repeat' split) <;> simp⟩
  -- the flight table and the claim engine
  | flightTableStem _ _ _ | flightTableClaim _ _ _ | flightTableYield _ _ _ | flightTableLot _ _
  | flightTableCarrierArrival _ | clearNoticeFlightTable _ | claimOutcome _ _ | claimEngineCarrierArrival _
  | holdAssertion | holdRelease | yieldRequest _ _ | yieldOutcome _ _ _ =>
    exact ⟨_, rfl, by (repeat' split) <;> simp⟩
  -- the release unit, the tie port and the status port
  | ackPress => exact ⟨_, rfl, by split <;> rfl⟩
  | holdNoticeReleaseUnit _ => exact ⟨_, rfl, by dsimp only; (repeat' split) <;> simp⟩
  | releaseHandover _ _ _ | releaseCarrierStep _ | clearNoticeRelease _ | flapSettleExpiry
  | delayExpiry | pulseEndExpiry | confirmationWindowExpiry | recordShifted | tackEdge | tdoneEdge | snapshot
  | sselRelease | lampFlashToggle =>
    exact ⟨_, rfl, by (repeat' split) <;> simp⟩

end Sys2Proof.Machine
end

section
namespace Sys2Proof.Machine

variable {s t : State} {c : CradleId}

/-! ### Every command moves the cradles by their rules -/

/-- The record in use changes at RESET and at the end of the read only (R172, R178). -/
theorem exec_record {i : Instr} (hreset : i ≠ .reset) (hread : ∀ bytes, i ≠ .recordReadComplete bytes)
    (h : exec i s = .next t) : t.loader.record = s.loader.record := by
  cases hi : movesTracker i with
  | false =>
    obtain ⟨u, hu, hmoved⟩ := exec_undisturbed (s := s) i hi
    cases hu.symm.trans h
    exact hmoved.record
  | true =>
    cases i with
    | reset => exact absurd rfl hreset
    | recordReadComplete bytes => exact absurd rfl (hread bytes)
    | cpQualification _ | stall =>
      cases h
      split <;> simp
    | _ => cases hi

theorem State.setFilter_moves (input : FilteredInput) (f : Filter) : s.CradleMoves (s.setFilter input f) :=
  .single (.alike (fun c => by cases input <;> cases c <;> rfl) (by cases input <;> rfl) (by simp))

theorem State.setClearFilter_moves (f : Filter) : s.CradleMoves (s.setClearFilter c f) :=
  .single (.alike (fun d => by cases c <;> cases d <;> rfl) (by cases c <;> rfl) (by simp))

/-- A held copy of the Cradle Manager (R126, R175, R176). -/
theorem State.setHeld_moves (held : Bool) : s.CradleMoves { s with cradles := { s.cradles with held := held } } :=
  .single (.alike (fun c => by cases c <;> rfl) rfl rfl)

theorem State.setTieHeld_moves (held : Bool) : s.CradleMoves { s with tie := { s.tie with held := held } } :=
  State.cradleMoves_of_cradles rfl rfl

theorem State.taken_moves (i : Instr) : s.CradleMoves (s.taken i) := State.cradleMoves_of_cradles rfl rfl

theorem State.takeModeNotice_moves (block : Block) (held : Bool) : s.CradleMoves (s.takeModeNotice block held) := by
  cases block with
  | cradleManager => exact State.setHeld_moves held
  | tiePort => exact (State.setTieHeld_moves held).trans State.judgeTieStart_moves
  | lineBus | gaugeUnit | flightTable | claimEngine | releaseUnit => exact State.cradleMoves_of_cradles rfl rfl

theorem State.takeHaltNotice_moves (block : Block) (held : Bool) : s.CradleMoves (s.takeHaltNotice block held) := by
  cases block with
  | cradleManager => exact cradleMoves_ite (fun _ => State.setHeld_moves held) fun _ => .refl
  | tiePort => exact cradleMoves_ite (fun _ => State.setTieHeld_moves held) fun _ => .refl
  | lineBus | gaugeUnit | flightTable | claimEngine | releaseUnit =>
    exact State.cradleMoves_of_cradles (by simp [State.takeHaltNotice]) (by simp)

/-- A hand-over taken by a block that works under a guard. -/
theorem taken_guarded_moves {p : Prop} [Decidable p] (i : Instr) (h : (s.taken i).CradleMoves t) :
    s.CradleMoves (if p then t else s.taken i) :=
  cradleMoves_ite (fun _ => (State.taken_moves i).trans h) fun _ => State.taken_moves i

/-- Every command but the two that take a configuration in or out of use moves the cradles by their rules. -/
theorem exec_cradleMoves {i : Instr} (hreset : i ≠ .reset) (hread : ∀ bytes, i ≠ .recordReadComplete bytes) :
    ∃ t, exec i s = .next t ∧ s.CradleMoves t := by
  cases hi : movesCradles i with
  | false =>
    obtain ⟨t, ht, hcradles⟩ := exec_cradles (s := s) i hi
    exact ⟨t, ht, State.cradleMoves_of_cradles hcradles (exec_record hreset hread ht)⟩
  | true =>
    cases i with
    | reset => exact absurd rfl hreset
    | recordReadComplete bytes => exact absurd rfl (hread bytes)
    | modeNotice block held => exact ⟨_, rfl, taken_guarded_moves _ (State.takeModeNotice_moves block held)⟩
    | haltNotice block held => exact ⟨_, rfl, taken_guarded_moves _ (State.takeHaltNotice_moves block held)⟩
    | filterInputAsserted input =>
      exact ⟨_, rfl, .trans (State.cradleMoves_of_cradles (t := s.setPin input true) rfl rfl)
        (State.setFilter_moves input _)⟩
    | filterInputReleased input =>
      exact ⟨_, rfl, .trans (State.cradleMoves_of_cradles (t := (s.countGlitch input).setPin input false) (by simp)
        (by simp)) (State.setFilter_moves input _)⟩
    | passRequest => exact ⟨_, rfl, taken_guarded_moves _ State.runPass_moves⟩
    | win c => exact ⟨_, rfl, taken_guarded_moves _ State.countWin_moves⟩
    | returnCount c => exact ⟨_, rfl, taken_guarded_moves _ State.countReturn_moves⟩
    | miss c => exact ⟨_, rfl, taken_guarded_moves _ State.countMiss_moves⟩
    | place c => exact ⟨_, rfl, taken_guarded_moves _ State.countPlace_moves⟩
    | cradleCarrierArrival a =>
      exact ⟨_, rfl, taken_guarded_moves _ (State.countIdle_moves.trans State.countIdle_moves)⟩
    | closeLot lotNo =>
      exact ⟨_, rfl, taken_guarded_moves _ ((State.closeCradleOfLot_moves lotNo).trans
        (State.closeCradleOfLot_moves lotNo))⟩
    | holdNoticeCradle held =>
      exact ⟨_, rfl, taken_guarded_moves _ (cradleMoves_ite (fun _ => State.setHeld_moves held) fun _ =>
        (State.setHeld_moves held).trans (State.judgeIdleCloseIfReady_moves.trans State.judgeIdleCloseIfReady_moves))⟩
    | clear c =>
      exact ⟨_, rfl, cradleMoves_ite (fun _ => (State.setClearFilter_moves .held).trans State.clearCradle_moves)
        fun _ => .refl⟩
    | tieResult c code => exact ⟨_, rfl, taken_guarded_moves _ (State.takeTieResult_moves code)⟩
    | uncertainMark c => exact ⟨_, rfl, taken_guarded_moves _ (.single (.marked rfl rfl rfl))⟩
    | queueNotice => exact ⟨_, rfl, (State.taken_moves _).trans State.judgeTieStart_moves⟩
    | holdNoticeTiePort held =>
      exact ⟨_, rfl, taken_guarded_moves _ (cradleMoves_ite (fun _ => State.setTieHeld_moves held)
        fun _ => (State.setTieHeld_moves held).trans State.judgeTieStart_moves)⟩
    | ackLimitExpiry =>
      exact ⟨_, rfl, cradleMoves_ite (fun _ => cradleMoves_ite (fun _ => State.cradleMoves_of_cradles rfl rfl)
        fun _ => State.endTie_moves _) fun _ => .refl⟩
    | tieLimitExpiry => exact ⟨_, rfl, cradleMoves_ite (fun _ => State.endTie_moves _) fun _ => .refl⟩
    | statusWordComplete word =>
      exact ⟨_, rfl, cradleMoves_ite (fun _ => State.takeStatusWord_moves word) fun _ => .refl⟩
    | _ => cases hi

theorem State.tick_moves : s.CradleMoves s.tick :=
  .single (.alike (fun c => by cases c <;> rfl) rfl rfl)

/-- A property that the moves keep is kept along them. -/
theorem State.CradleMoves.keeps {inv : State → Prop} (hmove : ∀ s t, s.CradleMove t → inv s → inv t)
    (h : s.CradleMoves t) (hs : inv s) : inv t := by
  induction h with
  | refl => exact hs
  | tail _ hlast ih => exact hmove _ _ hlast ih

/-! ### The record taken into use (R172) -/

theorem State.takeRecord_cradle (role : Role) (cfg : StationConfig) (c : CradleId) :
    (s.takeRecord role cfg).cradle c = s.cradle c := by
  cases role <;> cases c <;> simp [State.cradle, State.takeRecord, State.beginAnnouncing, State.loadRoleBlocks,
    State.loadStatusPort, State.loadDropBlocks, State.loadGaugeUnit, State.loadLineBus, State.loadTracker]

theorem State.takeRecord_tieQueue (role : Role) (cfg : StationConfig) :
    (s.takeRecord role cfg).cradles.tieQueue = s.cradles.tieQueue := by
  cases role <;> simp [State.takeRecord, State.beginAnnouncing, State.loadRoleBlocks, State.loadStatusPort,
    State.loadDropBlocks, State.loadGaugeUnit, State.loadLineBus, State.loadTracker]

/-- The end of the read takes a checked record into use, or leaves the cradles and the record. -/
theorem State.endRead_cases (s : State) (bytes : List Byte) :
    (∃ role id record, reasonOf role id record = 0 ∧ s.endRead bytes = s.takeRecord role (configOf role record))
    ∨ s.CradleMoves (s.endRead bytes) := by
  unfold State.endRead
  split
  case h_1 role _ _ =>
    unfold State.judgeRecord
    split
    case isTrue hgood => exact .inl ⟨role, _, _, hgood, rfl⟩
    case isFalse => exact .inr (State.cradleMoves_of_cradles rfl rfl)
  all_goals exact .inr .refl

/-! ### Blocks at their reset values before loading (R171) -/

theorem State.endRead_idleBeforeLoad (hs : s.idleBeforeLoad) (hm : s.loader.mode = .loading) (bytes : List Byte) :
    (s.endRead bytes).idleBeforeLoad := by
  unfold State.endRead
  split
  case h_1 role _ _ =>
    unfold State.judgeRecord
    split
    case isTrue => exact State.idleBeforeLoad_of_loaded (.inl (s.takeRecord_loader_tracker _ _).1)
    case isFalse => exact (State.Undisturbed.failCheck _ (State.not_loaded_iff.mpr (.inl hm))).idleBeforeLoad hs
  all_goals exact hs

/-- R10: a stall needs a tracker past loading. -/
theorem execStall_idleBeforeLoad (hs : s.idleBeforeLoad) : ∃ t, execStall s = .next t ∧ t.idleBeforeLoad := by
  refine ⟨_, rfl, ?_⟩
  split
  case isTrue h =>
    obtain ⟨htracking, -⟩ := h
    refine State.idleBeforeLoad_of_loaded (show s.loaded from ?_)
    by_contra hn
    rw [(State.idleBeforeLoad_iff.mp hs hn).tracker_eq] at htracking
    cases htracking
  case isFalse => exact hs

theorem exec_idleBeforeLoad (i : Instr) (hs : s.idleBeforeLoad) : ∃ t, exec i s = .next t ∧ t.idleBeforeLoad := by
  cases hi : movesTracker i with
  | false =>
    obtain ⟨t, ht, hmoved⟩ := exec_undisturbed (s := s) i hi
    exact ⟨t, ht, hmoved.idleBeforeLoad hs⟩
  | true =>
    cases i with
    | reset => exact ⟨_, rfl, State.resetBlocks_trackerSound.1⟩
    | recordReadComplete bytes =>
      refine ⟨_, rfl, ?_⟩
      split
      case isTrue hm => exact State.endRead_idleBeforeLoad hs hm bytes
      case isFalse => exact hs
    | cpQualification home =>
      refine ⟨_, rfl, ?_⟩
      split
      case isTrue h =>
        refine State.idleBeforeLoad_of_loaded ?_
        simpa [State.loaded] using h.1
      case isFalse => exact hs
    | stall => exact execStall_idleBeforeLoad hs
    | _ => cases hi

end Sys2Proof.Machine
end

section
namespace Sys2Proof.Machine

variable {s t : State} {c d : CradleId}

/-! ### The tie queue (R132) -/

theorem Cradle.not_awaitsTie_of_countable {k : Cradle} (h : k.countable) : ¬ k.awaitsTie := by
  rcases h with h | h <;> simp [Cradle.awaitsTie, h]

theorem State.readyHead_eq_some_iff : s.readyHead = some c
    ↔ s.cradles.tieQueue.head? = some c ∧ (s.cradle c).state = .ready := by
  unfold State.readyHead
  split
  · next hnil => simp [hnil]
  · next x rest hcons =>
    rw [hcons, List.head?_cons]
    split
    case isTrue hready => exact ⟨fun h => ⟨h, by cases h; exact hready⟩, And.left⟩
    case isFalse hne =>
      refine iff_of_false (by simp) ?_
      rintro ⟨⟨⟩, hready⟩
      exact hne hready

theorem State.tieQueueSound.of_states (hs : s.tieQueueSound) (hqueue : t.cradles.tieQueue = s.cradles.tieQueue)
    (hawaits : ∀ c, (t.cradle c).awaitsTie ↔ (s.cradle c).awaitsTie)
    (htying : ∀ c, (t.cradle c).state = .tying → (s.cradle c).state = .tying) : t.tieQueueSound := by
  obtain ⟨hnodup, hmem, hhead⟩ := hs
  rw [State.tieQueueSound, hqueue]
  exact ⟨hnodup, fun c => (hmem c).trans (hawaits c).symm, fun c hc => hhead c (htying c hc)⟩

/-- A property of a cradle at a state with one record replaced. -/
theorem State.setCradle_cases {p : CradleId → Cradle → Prop} {k : Cradle} (hself : p c k)
    (hother : ∀ d, d ≠ c → p d (s.cradle d)) (d : CradleId) : p d ((s.setCradle c k).cradle d) := by
  by_cases h : d = c
  · subst h
    rwa [State.setCradle_cradle]
  · rw [State.setCradle_cradle_ne s k h]
    exact hother d h

theorem State.tieQueueSound.setCradle (hs : s.tieQueueSound) {k : Cradle}
    (hawaits : k.awaitsTie ↔ (s.cradle c).awaitsTie) (htying : k.state = .tying → (s.cradle c).state = .tying) :
    (s.setCradle c k).tieQueueSound :=
  hs.of_states (State.setCradle_tieQueue s c k)
    (State.setCradle_cases (p := fun d k => k.awaitsTie ↔ (s.cradle d).awaitsTie) hawaits fun _ _ => Iff.rfl)
    (State.setCradle_cases (p := fun d k => k.state = .tying → (s.cradle d).state = .tying) htying fun _ _ => id)

/-- A record outside the tie queue, before and after. -/
theorem State.tieQueueSound.setCradle_outside (hs : s.tieQueueSound) {k : Cradle} (hfrom : ¬ (s.cradle c).awaitsTie)
    (hto : ¬ k.awaitsTie) : (s.setCradle c k).tieQueueSound :=
  hs.setCradle (iff_of_false hto hfrom) fun h => absurd (.inr h) hto

/-- R119: the cradle joins at the end. -/
theorem State.tieQueueSound.enterReady (hs : s.tieQueueSound) (hfrom : ¬ (s.cradle c).awaitsTie) :
    (s.enterReady c).tieQueueSound := by
  obtain ⟨hnodup, hmem, hhead⟩ := hs
  have hout : c ∉ s.cradles.tieQueue := mt (hmem c).mp hfrom
  have hself : ((s.enterReady c).cradle c).state = .ready := by
    rw [State.enterReady_cradle]
    rfl
  rw [State.tieQueueSound, State.enterReady_tieQueue]
  refine ⟨List.nodup_append.mpr ⟨hnodup, List.nodup_singleton c, ?_⟩, fun d => ?_, fun d hd => ?_⟩
  · rintro x hx y hy rfl
    exact hout (List.mem_singleton.mp hy ▸ hx)
  · by_cases hdc : d = c
    · simp [hdc, hself]
    · simp [State.enterReady_cradle_ne hdc, hdc, hmem]
  · by_cases hdc : d = c
    · rw [hdc, hself] at hd
      cases hd
    · rw [State.enterReady_cradle_ne hdc] at hd
      simp [hhead d hd]

@[simp] theorem State.leaveTieQueue_cradle (s : State) (c d : CradleId) :
    (s.leaveTieQueue c).cradle d = s.cradle d := by
  cases d <;> rfl

/-- R128, R134: the cradle leaves, and the head that is TYING stays unless it is the one. -/
theorem State.tieQueueSound.leave (hs : s.tieQueueSound) {k : Cradle} (hto : ¬ k.awaitsTie) :
    ((s.leaveTieQueue c).setCradle c k).tieQueueSound := by
  obtain ⟨hnodup, hmem, hhead⟩ := hs
  rw [State.tieQueueSound, State.setCradle_tieQueue, State.leaveTieQueue_cradles]
  refine ⟨hnodup.filter _, State.setCradle_cases (p := fun d k => _ ↔ k.awaitsTie) ?_ fun d hd => ?_,
    State.setCradle_cases (p := fun d k => k.state = .tying → _) (fun h => absurd (.inr h) hto) fun d hd htying => ?_⟩
  · simpa using hto
  · simp [hd, hmem]
  · rw [State.leaveTieQueue_cradle] at htying
    obtain ⟨rest, hcons⟩ := List.head?_eq_some_iff.mp (hhead d htying)
    simp [hcons, hd]

/-- R155: the READY head becomes TYING, and no other cradle is. -/
theorem State.tieQueueSound.startTie (hs : s.tieQueueSound) (hhead : s.readyHead = some c) :
    (s.setCradle c { s.cradle c with state := .tying }).tieQueueSound := by
  obtain ⟨hfirst, hready⟩ := State.readyHead_eq_some_iff.mp hhead
  obtain ⟨hnodup, hmem, htying⟩ := hs
  rw [State.tieQueueSound, State.setCradle_tieQueue]
  refine ⟨hnodup, State.setCradle_cases (p := fun d k => _ ↔ k.awaitsTie) ?_ fun d _ => hmem d,
    State.setCradle_cases (p := fun d k => k.state = .tying → _) (fun _ => hfirst) fun d _ => htying d⟩
  exact iff_of_true ((hmem c).mpr (.inl hready)) (.inr rfl)

/-- Each move of a cradle keeps the tie queue. -/
theorem State.CradleMove.tieQueueSound (h : s.CradleMove t) (hs : s.tieQueueSound) : t.tieQueueSound := by
  cases h with
  | alike hcradle hqueue _ => exact hs.of_states hqueue (fun c => by rw [hcradle]) fun c => by rw [hcradle]; exact id
  | marked hstate _ _ => exact hs.setCradle (by simp only [Cradle.awaitsTie, hstate]) fun h => hstate ▸ h
  | counted hfrom hto _ _ =>
    exact hs.setCradle_outside (Cradle.not_awaitsTie_of_countable hfrom) (Cradle.not_awaitsTie_of_countable hto)
  | reserved _ hfrom hto _ _ =>
    refine hs.setCradle_outside ?_ (Cradle.not_awaitsTie_of_countable hto)
    rcases hfrom with hempty | ⟨hopen, -⟩
    · simp [hempty]
    · simp [hopen]
  | @emptied c hfrom =>
    have hout : ¬ (s.cradle c).awaitsTie := hfrom.elim Cradle.not_awaitsTie_of_countable fun hf => by simp [hf]
    have hemptied : (s.setCradle c Cradle.emptyRecord).tieQueueSound :=
      hs.setCradle_outside hout (by simp [Cradle.emptyRecord])
    exact hemptied
  | readied hfrom => exact hs.enterReady (Cradle.not_awaitsTie_of_countable hfrom)
  | tieStarted hhead => exact hs.startTie hhead
  | tieLeft _ hto =>
    refine hs.leave ?_
    rcases hto with rfl | rfl <;> simp [Cradle.emptyRecord]

/-- R172: loading leaves the tie queue and the cradles it holds. -/
theorem State.tieQueueSound.endRead (hs : s.tieQueueSound) (bytes : List Byte) : (s.endRead bytes).tieQueueSound := by
  rcases s.endRead_cases bytes with ⟨role, _, record, -, htaken⟩ | hmoves
  · rw [htaken]
    exact hs.of_states (State.takeRecord_tieQueue _ _) (fun c => by rw [State.takeRecord_cradle])
      fun c => by rw [State.takeRecord_cradle]; exact id
  · exact hmoves.keeps (fun _ _ hmove => hmove.tieQueueSound) hs

theorem State.resetBlocks_cradle (s : State) (c : CradleId) : s.resetBlocks.cradle c = Cradle.emptyRecord := by
  cases c <;> rfl

/-- R138: no cradle is READY or TYING after RESET, and the tie queue is empty. -/
theorem State.resetBlocks_tieQueueSound (s : State) : s.resetBlocks.tieQueueSound :=
  ⟨List.nodup_nil, fun c => iff_of_false List.not_mem_nil (by simp [State.resetBlocks_cradle, Cradle.emptyRecord]),
    fun c hc => by simp [State.resetBlocks_cradle, Cradle.emptyRecord] at hc⟩

theorem exec_tieQueueSound (i : Instr) (hs : s.tieQueueSound) : ∃ t, exec i s = .next t ∧ t.tieQueueSound := by
  by_cases hreset : i = .reset
  · subst hreset
    exact ⟨_, rfl, s.resetBlocks_tieQueueSound⟩
  · by_cases hread : ∃ bytes, i = .recordReadComplete bytes
    · obtain ⟨bytes, rfl⟩ := hread
      refine ⟨_, rfl, ?_⟩
      split
      · exact hs.endRead bytes
      · exact hs
    · obtain ⟨t, ht, hmoves⟩ := exec_cradleMoves (s := s) hreset (not_exists.mp hread)
      exact ⟨t, ht, hmoves.keeps (fun _ _ hmove => hmove.tieQueueSound) hs⟩

/-- Settles O49: a cradle joins the tie queue at its entry to READY only and leaves it with its record, and only the
READY head becomes TYING. -/
theorem tieQueueHoldsReadyAndTying : Obligations.TieQueueHoldsReadyAndTying := by
  refine keptByEveryStep_of_exec_of_tick (fun s p hs => hs) (fun i s t hs hexec => ?_)
    fun s hs => State.tick_moves.keeps (fun _ _ hmove => hmove.tieQueueSound) hs
  obtain ⟨u, hu, hsound⟩ := exec_tieQueueSound i hs
  cases hexec.symm.trans hu
  exact hsound

end Sys2Proof.Machine
end

section
namespace Sys2Proof.Machine

variable {s t : State} {c : CradleId} {k : Cradle}

/-! ### The sums (R113) -/

/-- R113 for one record: EMPTY with nothing in it and no binding, or within the bunch size. -/
def State.fits (s : State) (k : Cradle) : Prop :=
  (k.state = .empty → k.sum = 0 ∧ k.binding = none) ∧ (k.state ≠ .empty → k.sum ≤ s.bunchSize k)

theorem State.cradlesSound_iff : s.cradlesSound
    ↔ s.idleBeforeLoad ∧ s.servicesSound ∧ ∀ c, s.fits (s.cradle c) := by
  simp only [State.cradlesSound, State.fits, Cradle.sum, Nat.add_eq_zero_iff, and_assoc]

/-- The bunch size is the record's in use, by the class bound to. -/
theorem State.bunchSize_congr {k j : Cradle} (hrecord : t.loader.record = s.loader.record)
    (hbinding : k.binding = j.binding) : t.bunchSize k = s.bunchSize j := by
  simp only [State.bunchSize, State.service?, State.cfg_of_record_eq hrecord, hbinding]

/-- A record of the same binding, EMPTY as the other is, with no greater sum. -/
theorem State.fits.of_le {k j : Cradle} (hj : s.fits j) (hrecord : t.loader.record = s.loader.record)
    (hstate : k.state = .empty ↔ j.state = .empty) (hbinding : k.binding = j.binding) (hsum : k.sum ≤ j.sum) :
    t.fits k := by
  obtain ⟨hempty, hbound⟩ := hj
  refine ⟨fun h => ?_, fun h => ?_⟩
  · obtain ⟨hzero, hnone⟩ := hempty (hstate.mp h)
    exact ⟨Nat.le_zero.mp (hzero ▸ hsum), hbinding.trans hnone⟩
  · rw [State.bunchSize_congr hrecord hbinding]
    exact hsum.trans (hbound (mt hstate.mpr h))

theorem State.fits_emptyRecord (s : State) : s.fits Cradle.emptyRecord := ⟨fun _ => ⟨rfl, rfl⟩, fun h => absurd rfl h⟩

theorem Cradle.ne_empty_of_countable {k : Cradle} (h : k.countable) : k.state ≠ .empty := by
  rcases h with h | h <;> simp [h]

theorem Cradle.ne_empty_of_awaitsTie {k : Cradle} (h : k.awaitsTie) : k.state ≠ .empty := by
  rcases h with h | h <;> simp [h]

/-- The moves leave the record in use. -/
theorem State.CradleMove.record (h : s.CradleMove t) : t.loader.record = s.loader.record := by
  cases h with
  | alike _ _ hrecord => exact hrecord
  | marked _ _ _ | counted _ _ _ _ | reserved _ _ _ _ _ | emptied _ | readied _ | tieStarted _ | tieLeft _ _ => simp

/-- R96, R114: a claim goes into an EMPTY cradle, whose bunch size is at least 1, or into an OPEN one with room. -/
theorem State.servicesSound.fits_reserved (hservices : s.servicesSound) {j k : Cradle} {cls lot : Nat}
    {service : ServiceEntry} (hj : s.fits j) (hservice : s.service? cls = some service)
    (hfrom : j.state = .empty ∨ (j.state = .opened ∧ j.sum < service.bunchSize)) (hto : k.countable)
    (hbinding : k.binding = some ⟨cls, lot⟩) (hsum : k.sum = j.sum + 1) : s.fits k := by
  refine ⟨fun h => absurd h (Cradle.ne_empty_of_countable hto), fun _ => ?_⟩
  rw [State.bunchSize_of_binding hservice hbinding, hsum]
  rcases hfrom with hempty | ⟨-, hroom⟩
  · rw [(hj.1 hempty).1]
    exact hservices service (List.mem_of_find?_eq_some hservice)
  · exact hroom

/-- Each move of a cradle keeps every sum within its bunch. -/
theorem State.CradleMove.fits (h : s.CradleMove t) (hservices : s.servicesSound) (hs : ∀ c, s.fits (s.cradle c)) :
    ∀ c, t.fits (t.cradle c) := by
  have hrecord := h.record
  have hsame (c : CradleId) : t.fits (s.cradle c) := (hs c).of_le hrecord Iff.rfl rfl (le_refl _)
  cases h with
  | alike hcradle _ _ => exact fun c => hcradle c ▸ hsame c
  | @marked c k hstate hbinding hsum =>
    exact State.setCradle_cases (p := fun _ k => State.fits _ k)
      ((hs c).of_le hrecord (by rw [hstate]) hbinding (le_of_eq hsum)) fun d _ => hsame d
  | @counted c k hfrom hto hbinding hsum =>
    exact State.setCradle_cases (p := fun _ k => State.fits _ k)
      ((hs c).of_le hrecord (iff_of_false (Cradle.ne_empty_of_countable hto) (Cradle.ne_empty_of_countable hfrom))
        hbinding hsum) fun d _ => hsame d
  | @reserved c k _ _ _ hservice hfrom hto hbinding hsum =>
    exact State.setCradle_cases (p := fun _ k => State.fits _ k)
      ((hservices.fits_reserved (hs c) hservice hfrom hto hbinding hsum).of_le hrecord Iff.rfl rfl (le_refl _))
      fun d _ => hsame d
  | emptied _ => exact State.setCradle_cases (p := fun _ k => State.fits _ k) (State.fits_emptyRecord _) fun d _ => hsame d
  | @readied c hfrom =>
    intro d
    by_cases hdc : d = c
    · rw [hdc, State.enterReady_cradle]
      exact (hs c).of_le hrecord (iff_of_false (by simp [Cradle.readyRecord]) (Cradle.ne_empty_of_countable hfrom)) rfl
        (le_refl _)
    · rw [State.enterReady_cradle_ne hdc]
      exact hsame d
  | @tieStarted c hhead =>
    obtain ⟨-, hready⟩ := State.readyHead_eq_some_iff.mp hhead
    exact State.setCradle_cases (p := fun _ k => State.fits _ k)
      ((hs c).of_le hrecord (iff_of_false (by simp) (by simp [hready])) rfl (le_refl _)) fun d _ => hsame d
  | @tieLeft c k hfrom hto =>
    refine State.setCradle_cases (s := s.leaveTieQueue c) (p := fun _ k => State.fits _ k) ?_ fun d _ => ?_
    · rcases hto with rfl | rfl
      · exact State.fits_emptyRecord _
      · exact (hs c).of_le hrecord (iff_of_false (by simp) (Cradle.ne_empty_of_awaitsTie hfrom)) rfl (le_refl _)
    · rw [State.leaveTieQueue_cradle]
      exact hsame d

end Sys2Proof.Machine
end

section
namespace Sys2Proof.Machine

variable {s t : State} {c : CradleId}

/-! ### The service list of a checked record (R170) -/

theorem dropChecks_passed {id : Nat} {record : List Byte} (h : reasonOf .drop id record = 0) :
    ∀ c ∈ dropChecks record, c.2 = false := by
  have hnumbers : ∀ c ∈ roleChecks .drop id record, c.1 ≠ 0 := by simp [roleChecks, commonChecks, dropChecks]
  exact fun c hc => not_failed_of_firstFailure hnumbers h c (List.mem_append_right _ hc)

/-- Check 11 of R170 brings a bunch size of at least 1 to each service entry. -/
theorem bunchSize_pos_of_reasonOf {role : Role} {id : Nat} {record : List Byte} (h : reasonOf role id record = 0) :
    ∀ e ∈ (configOf role record).services, 1 ≤ e.bunchSize := by
  cases role with
  | gauge => exact fun e he => absurd he List.not_mem_nil
  | drop =>
    intro e he
    obtain ⟨i, hi, rfl⟩ := List.mem_map.mp he
    have hpassed := dropChecks_passed h (11, _) (by simp [dropChecks]; rfl)
    simp only [Bool.or_eq_false_iff, List.any_eq_false] at hpassed
    obtain ⟨⟨⟨-, hentries⟩, -⟩, -⟩ := hpassed
    have hentry := hentries i hi
    simp only [serviceBad, outside, Bool.or_eq_true, decide_eq_true_iff, not_or, Nat.not_lt] at hentry
    obtain ⟨⟨⟨-, hsize, -⟩, -⟩, -⟩ := hentry
    exact hsize

theorem State.servicesSound.of_record (hs : s.servicesSound) (hrecord : t.loader.record = s.loader.record) :
    t.servicesSound := by
  rwa [State.servicesSound, State.cfg_of_record_eq hrecord]

/-! ### Every command keeps the sums -/

/-- The parts of R113 that the moves keep. -/
theorem State.CradleMoves.fits (h : s.CradleMoves t) (hs : s.servicesSound ∧ ∀ c, s.fits (s.cradle c)) :
    t.servicesSound ∧ ∀ c, t.fits (t.cradle c) :=
  h.keeps (inv := fun s => s.servicesSound ∧ ∀ c, s.fits (s.cradle c))
    (fun _ _ hmove ⟨hservices, hfits⟩ => ⟨hservices.of_record hmove.record, hmove.fits hservices hfits⟩) hs

/-- R138: EMPTY cradles, and no record in use. -/
theorem State.resetBlocks_fits (s : State) :
    s.resetBlocks.servicesSound ∧ ∀ c, s.resetBlocks.fits (s.resetBlocks.cradle c) :=
  ⟨fun _ he => absurd he List.not_mem_nil, fun c => by rw [State.resetBlocks_cradle]; exact State.fits_emptyRecord _⟩

/-- R171, R172: the record is taken into use with every cradle EMPTY. -/
theorem State.endRead_fits (hs : s.cradlesSound) (hm : s.loader.mode = .loading) (bytes : List Byte) :
    (s.endRead bytes).servicesSound ∧ ∀ c, (s.endRead bytes).fits ((s.endRead bytes).cradle c) := by
  obtain ⟨hidle, hservices, hfits⟩ := State.cradlesSound_iff.mp hs
  rcases s.endRead_cases bytes with ⟨role, id, record, hgood, htaken⟩ | hmoves
  · obtain ⟨-, -, -, -, -, hcradles, -⟩ := hidle (.inl hm)
    obtain ⟨-, hrecord, -⟩ := s.takeRecord_loader_tracker role (configOf role record)
    rw [htaken]
    refine ⟨?_, fun c => ?_⟩
    · rw [State.servicesSound, State.cfg_of_record hrecord]
      exact bunchSize_pos_of_reasonOf hgood
    · have hempty : s.cradle c = Cradle.emptyRecord := by cases c <;> simp [State.cradle, hcradles, CradleManager.reset]
      rw [State.takeRecord_cradle, hempty]
      exact State.fits_emptyRecord _
  · exact hmoves.fits ⟨hservices, hfits⟩

theorem exec_cradlesSound (i : Instr) (hs : s.cradlesSound) : ∃ t, exec i s = .next t ∧ t.cradlesSound := by
  obtain ⟨hidle, hservices, hfits⟩ := State.cradlesSound_iff.mp hs
  obtain ⟨t, ht, htidle⟩ := exec_idleBeforeLoad i hidle
  refine ⟨t, ht, State.cradlesSound_iff.mpr ⟨htidle, ?_⟩⟩
  by_cases hreset : i = .reset
  · subst hreset
    cases ht
    exact s.resetBlocks_fits
  · by_cases hread : ∃ bytes, i = .recordReadComplete bytes
    · obtain ⟨bytes, rfl⟩ := hread
      cases ht
      split
      case isTrue hm => exact State.endRead_fits hs hm bytes
      case isFalse => exact ⟨hservices, hfits⟩
    · obtain ⟨u, hu, hmoves⟩ := exec_cradleMoves (s := s) hreset (not_exists.mp hread)
      cases hu.symm.trans ht
      exact hmoves.fits ⟨hservices, hfits⟩

theorem State.tick_cradlesSound (hs : s.cradlesSound) : s.tick.cradlesSound := by
  obtain ⟨hidle, hservices, hfits⟩ := State.cradlesSound_iff.mp hs
  exact State.cradlesSound_iff.mpr ⟨fun hm => (hidle hm).tick, State.tick_moves.fits ⟨hservices, hfits⟩⟩

/-- Settles O50: RESERVE alone adds to a sum, in a cradle with room, and a record is taken into use with every cradle
EMPTY. -/
theorem cradleSumsStayWithinTheBunch : Obligations.CradleSumsStayWithinTheBunch := by
  refine keptByEveryStep_of_exec_of_tick (fun s p hs => hs) (fun i s t hs hexec => ?_)
    fun _ => State.tick_cradlesSound
  obtain ⟨u, hu, hsound⟩ := exec_cradlesSound i hs
  cases hexec.symm.trans hu
  exact hsound

end Sys2Proof.Machine
end

section
namespace Sys2Proof.Machine

variable {s t : State} {c d : CradleId} {k : Cradle}

/-! ### The idle close (R122) -/

theorem State.shortMinimum_congr {j : Cradle} (hrecord : t.loader.record = s.loader.record)
    (hbinding : k.binding = j.binding) : t.shortMinimum k = s.shortMinimum j := by
  simp only [State.shortMinimum, State.service?, State.cfg_of_record_eq hrecord, hbinding]

theorem State.judgeIdleCloseIfReady_rests (hk : s.cradle c = k) (h : k.state ≠ .opened ∨ k.idleDue = false ∨ k.won ≠ 0
    ∨ k.tentative ≠ 0 ∨ s.cradles.held = true) : s.judgeIdleCloseIfReady c = s := by
  subst hk
  refine if_neg ?_
  rintro ⟨hopen, hdue, hwon, htentative, hheld⟩
  simp [hopen, hdue, hwon, htentative, hheld] at h

theorem State.judgeIdleCloseIfReady_judges (hk : s.cradle c = k) (hopen : k.state = .opened) (hdue : k.idleDue = true)
    (hwon : k.won = 0) (htentative : k.tentative = 0) (hheld : s.cradles.held = false) : s.judgeIdleCloseIfReady c
      = if s.shortMinimum k ≤ k.placed then s.enterReady c
        else (s.setCradle c { k with idleDue := false, stale := true }).raise .stale := by
  subst hk
  exact if_pos ⟨hopen, hdue, hwon, htentative, hheld⟩

/-! ### The rows of R118 -/

/-- Rows 1 and 2. -/
theorem State.judgeCradle_void (hk : s.cradle c = k) (h : k.pending = .void) : s.judgeCradle c
    = if k.won = 0 ∧ k.tentative = 0 then s.enterEmpty c else s := by
  subst hk
  exact if_pos h

/-- Row 3. -/
theorem State.judgeCradle_full (hk : s.cradle c = k) (h : k.pending ≠ .void) (hplaced : k.placed = s.bunchSize k) :
    s.judgeCradle c = s.enterReady c := by
  subst hk
  exact (if_neg h).trans (if_pos hplaced)

/-- Rows 4 to 6. -/
theorem State.judgeCradle_close (hk : s.cradle c = k) (h : k.pending = .close) (hplaced : k.placed ≠ s.bunchSize k) :
    s.judgeCradle c = if k.won = 0 ∧ k.tentative = 0 then if 1 ≤ k.placed then s.enterReady c else s.enterEmpty c
      else s := by
  subst hk
  exact (if_neg (by simp [h])).trans ((if_neg hplaced).trans (if_pos h))

/-- Row 7. -/
theorem State.judgeCradle_sealed (hk : s.cradle c = k) (h : k.pending = .none) (hplaced : k.placed ≠ s.bunchSize k)
    (hsum : k.sum = s.bunchSize k) : s.judgeCradle c = s.setCradle c { k with state := .sealed } := by
  subst hk
  rw [State.judgeCradle, if_neg (by simp [h]), if_neg hplaced, if_neg (by simp [h]), if_pos hsum, ← h]

/-- Row 8. -/
theorem State.judgeCradle_emptied (hk : s.cradle c = k) (h : k.pending = .none) (hplaced : k.placed ≠ s.bunchSize k)
    (hsum : k.sum ≠ s.bunchSize k) (hzero : k.sum = 0) : s.judgeCradle c = s.enterEmpty c := by
  subst hk
  rw [State.judgeCradle, if_neg (by simp [h]), if_neg hplaced, if_neg (by simp [h]), if_neg hsum, if_pos hzero]

/-- The cradle with a record OPEN, an unsealing asking for a pass. -/
def State.reopened (s : State) (c : CradleId) (k : Cradle) : State :=
  if k.state = .sealed then (s.setCradle c { k with state := .opened }).hand .passRequest
  else s.setCradle c { k with state := .opened }

theorem State.reopened_cradle (s : State) (c : CradleId) (k : Cradle) :
    (s.reopened c k).cradle c = { k with state := .opened } := by
  unfold State.reopened
  split
  · exact s.setCradle_cradle c _
  · exact s.setCradle_cradle c _

theorem State.reopened_frame (s : State) (c : CradleId) (k : Cradle) :
    (s.reopened c k).loader = s.loader ∧ (s.reopened c k).cradles.held = s.cradles.held := by
  unfold State.reopened
  split <;> simp

/-- Row 9. -/
theorem State.judgeCradle_opened (hk : s.cradle c = k) (h : k.pending = .none) (hplaced : k.placed ≠ s.bunchSize k)
    (hsum : k.sum ≠ s.bunchSize k) (hzero : k.sum ≠ 0) :
    s.judgeCradle c = (s.reopened c k).judgeIdleCloseIfReady c := by
  subst hk
  rw [State.judgeCradle, if_neg (by simp [h]), if_neg hplaced, if_neg (by simp [h]), if_neg hsum, if_neg hzero]
  rfl

/-! ### Count operations (R115 to R117) -/

/-- A count operation with a claim or a stem to take, and the record it leaves before the judgment. -/
def Cradle.Counted (k : Cradle) (c : CradleId) (i : Instr) (after : Cradle) : Prop :=
  (i = .win c ∧ 0 < k.tentative ∧ after = { k with tentative := k.tentative - 1, won := k.won + 1 })
  ∨ (i = .returnCount c ∧ 0 < k.tentative ∧ after = { k with tentative := k.tentative - 1 })
  ∨ (i = .miss c ∧ 0 < k.won ∧ after = { k with won := k.won - 1 })
  ∨ (i = .place c ∧ 0 < k.won ∧ after = { k with
      won := k.won - 1
      placed := if k.pending = .void then k.placed else k.placed + 1
      idleCount := 0, idleDue := false, stale := false })

/-- State, binding and pending are the judgment's to change. -/
theorem Cradle.Counted.keeps {i : Instr} {after : Cradle} (h : k.Counted c i after) :
    after.state = k.state ∧ after.binding = k.binding ∧ after.pending = k.pending := by
  rcases h with ⟨-, -, rfl⟩ | ⟨-, -, rfl⟩ | ⟨-, -, rfl⟩ | ⟨-, -, rfl⟩ <;> exact ⟨rfl, rfl, rfl⟩

theorem exec_counted {i : Instr} {after : Cradle} (hdrop : s.dropLoaded) (hk : (s.cradle c).countable)
    (h : (s.cradle c).Counted c i after) : exec i s = .next (((s.taken i).setCradle c after).judgeCradle c) := by
  rcases h with ⟨rfl, hpos, rfl⟩ | ⟨rfl, hpos, rfl⟩ | ⟨rfl, hpos, rfl⟩ | ⟨rfl, hpos, rfl⟩ <;>
    exact congrArg Host.Outcome.next ((if_pos hdrop).trans (if_pos ⟨hk, hpos⟩))

/-- Settles O44: the operation, then the row of the judgment that the record it leaves meets. -/
theorem countOperationsAreJudgedByTheRows : Obligations.CountOperationsAreJudgedByTheRows := by
  rintro s base c i k after size hdrop rfl hstate rfl hcounted hbase
  replace hcounted : (s.cradle c).Counted c i after := hcounted
  obtain ⟨hafterState, hbinding, hpending⟩ := hcounted.keeps
  have hexec : exec i s = .next (base.judgeCradle c) := hbase ▸ exec_counted hdrop hstate hcounted
  have hrecord : base.loader.record = s.loader.record := by simp [hbase]
  have hsize : base.bunchSize after = s.bunchSize (s.cradle c) := State.bunchSize_congr hrecord hbinding
  have hheld : base.cradles.held = s.cradles.held := by simp [hbase]
  have hk : base.cradle c = after := by simp [hbase]
  rw [hexec, ← hpending, ← hsize, ← hafterState, ← hheld]
  refine ⟨fun hvoid hwon htentative => ?_, fun hvoid hleft => ?_, fun hvoid hfull => ?_,
    fun hclose hplaced hwon htentative => ?_, fun hclose hplaced hleft => ?_,
    fun hnone hplaced => ⟨fun hsum => ?_, fun hsum hzero => ?_, fun opened hsum hzero hopened => ?_⟩⟩
  · rw [State.judgeCradle_void hk hvoid, if_pos ⟨hwon, htentative⟩]
  · rw [State.judgeCradle_void hk hvoid, if_neg hleft]
  · rw [State.judgeCradle_full hk hvoid hfull]
  · rw [State.judgeCradle_close hk hclose hplaced, if_pos ⟨hwon, htentative⟩]
  · rw [State.judgeCradle_close hk hclose hplaced, if_neg hleft]
  · rw [State.judgeCradle_sealed hk hnone hplaced hsum]
  · rw [State.judgeCradle_emptied hk hnone hplaced hsum hzero]
  · obtain ⟨hloader, hopenedHeld⟩ := base.reopened_frame c after
    have hopenedCradle := base.reopened_cradle c after
    replace hopened : opened = base.reopened c after := hopened
    rw [← hopened] at hloader hopenedHeld hopenedCradle
    have hshort : opened.shortMinimum { after with state := .opened } = s.shortMinimum (s.cradle c) :=
      State.shortMinimum_congr (by rw [hloader, hrecord]) hbinding
    rw [State.judgeCradle_opened hk hnone hplaced hsum hzero, ← hopened]
    refine ⟨fun hrests => ?_, fun hdue hwon htentative hclear => ?_⟩
    · rw [State.judgeIdleCloseIfReady_rests hopenedCradle (.inr (by rwa [hopenedHeld]))]
    · rw [State.judgeIdleCloseIfReady_judges hopenedCradle rfl hdue hwon htentative (hopenedHeld.trans hclear), hshort]

end Sys2Proof.Machine
end

section
namespace Sys2Proof.Machine

variable {s t : State} {c d : CradleId}

/-! ### The held copy under judgments -/

@[simp] theorem State.enterReady_held : (s.enterReady c).cradles.held = s.cradles.held := by
  rw [State.enterReady_cradles]
  exact s.setCradle_held c _

@[simp] theorem State.judgeIdleClose_held : (s.judgeIdleClose c).cradles.held = s.cradles.held := by
  unfold State.judgeIdleClose
  dsimp only
  split
  · exact State.enterReady_held
  · exact s.setCradle_held c _

@[simp] theorem State.judgeIdleCloseIfReady_held : (s.judgeIdleCloseIfReady c).cradles.held = s.cradles.held := by
  unfold State.judgeIdleCloseIfReady
  split
  · exact State.judgeIdleClose_held
  · rfl

@[simp] theorem State.countIdle_held : (s.countIdle c).cradles.held = s.cradles.held := by
  unfold State.countIdle
  dsimp only
  (repeat' split) <;> simp

/-! ### Idle closes and lot closes (R121, R122, R124) -/

theorem State.judgeIdleCloseIfReady_judged (hheld : s.cradles.held = false) :
    s.idleCloseJudged c (s.judgeIdleCloseIfReady c) := by
  refine ⟨fun hrests => State.judgeIdleCloseIfReady_rests rfl ?_, fun hopen hdue hwon htentative => ?_⟩
  · rcases hrests with h | h | h | h <;> simp [h]
  · rw [State.judgeIdleCloseIfReady_judges rfl hopen hdue hwon htentative hheld]
    exact ⟨fun hmin => if_pos hmin, fun hbelow => if_neg (Nat.not_le.mpr hbelow)⟩

theorem State.countIdle_rests (h : s.cradles.held = true ∨ (s.cradle c).state ≠ .opened) : s.countIdle c = s := by
  refine if_neg ?_
  rintro ⟨hopen, hheld⟩
  simp [hopen, hheld] at h

theorem State.countIdle_counted (hheld : s.cradles.held = false) : s.idleCounted c (s.countIdle c) := by
  rintro k n rfl rfl
  refine ⟨fun hclosed => State.countIdle_rests (.inr hclosed), fun hopen hrests => ?_, fun hopen hlimit hbelow => ?_⟩
  · refine (if_pos ⟨hopen, hheld⟩).trans (if_neg ?_)
    rintro ⟨hbelow, hlimit⟩
    exact hrests.elim (fun h => h hlimit) fun h => Nat.not_le.mpr hbelow h
  · have hcount : s.countIdle c = (s.setCradle c { s.cradle c with
        idleCount := min ((s.cradle c).idleCount + 1) 4095, idleDue := true }).judgeIdleCloseIfReady c :=
      (if_pos ⟨hopen, hheld⟩).trans (if_pos ⟨hbelow, hlimit⟩)
    rw [hcount]
    exact State.judgeIdleCloseIfReady_judged (by rwa [State.setCradle_held])

theorem State.closeCradleOfLot_other {lotNo : Nat} (h : ∀ b, (s.cradle c).binding = some b → b.lot ≠ lotNo) :
    s.closeCradleOfLot lotNo c = s := by
  unfold State.closeCradleOfLot
  split
  · rfl
  · next b hb => exact if_neg (h b hb)

theorem State.closeCradleOfLot_own {b : Binding} (hb : (s.cradle c).binding = some b) :
    s.closeCradleOfLot b.lot c = s.closeCradle c := by
  simp only [State.closeCradleOfLot, hb, if_true]

theorem State.closeCradle_ready (hopen : (s.cradle c).state = .opened) (hwon : (s.cradle c).won = 0)
    (htentative : (s.cradle c).tentative = 0) : s.closeCradle c = s.enterReady c :=
  (if_pos hopen).trans (if_pos ⟨hwon, htentative⟩)

theorem State.closeCradleOfLot_closed (s : State) (lotNo : Nat) (c : CradleId) :
    s.lotClosed lotNo c (s.closeCradleOfLot lotNo c) := by
  rintro k rfl
  refine ⟨State.closeCradleOfLot_other, ?_⟩
  rintro b hb rfl
  rw [State.closeCradleOfLot_own hb]
  refine ⟨State.closeCradle_ready, fun hopen hleft => ?_, fun hsealed hnone => ?_, fun hrests => ?_⟩
  · exact (if_pos hopen).trans (if_neg (not_and_or.mpr hleft))
  · exact (if_neg (by simp [hsealed])).trans (if_pos ⟨hsealed, hnone⟩)
  · refine (if_neg ?_).trans (if_neg ?_)
    · rcases hrests with ⟨h, -⟩ | h | h | h | h <;> simp [h]
    · rcases hrests with ⟨-, h⟩ | h | h | h | h <;> simp [h]

theorem exec_cradleCarrierArrival (h : s.dropActive) (a : Arrival) : exec (.cradleCarrierArrival a) s
    = .next (((s.taken (.cradleCarrierArrival a)).countIdle .a).countIdle .b) :=
  congrArg Host.Outcome.next (if_pos h)

theorem exec_closeLot (h : s.dropLoaded) (lotNo : Nat) : exec (.closeLot lotNo) s
    = .next (((s.taken (.closeLot lotNo)).closeCradleOfLot lotNo .a).closeCradleOfLot lotNo .b) :=
  congrArg Host.Outcome.next (if_pos h)

theorem exec_holdNoticeCradle (h : s.dropActive) (held : Bool) : exec (.holdNoticeCradle held) s
    = .next (if held = true then { s with
        cradles := { s.cradles with held := held }, handed := s.handed.erase (.holdNoticeCradle held) }
      else (({ s with
        cradles := { s.cradles with held := held }
        handed := s.handed.erase (.holdNoticeCradle held) } : State).judgeIdleCloseIfReady .a).judgeIdleCloseIfReady .b) :=
  congrArg Host.Outcome.next (if_pos h)

/-- Settles O46: each cradle by itself, A's end being B's start. -/
theorem cradlesCloseByIdleLotAndHold : Obligations.CradlesCloseByIdleLotAndHold := by
  refine ⟨?_, ?_, ?_⟩
  · rintro s base a hrole hmode rfl
    rw [exec_cradleCarrierArrival ⟨hrole, hmode⟩]
    refine ⟨fun hrests => ?_, fun hheld => ⟨_, _, State.countIdle_counted hheld,
      State.countIdle_counted (State.countIdle_held.trans hheld), rfl⟩⟩
    rw [State.countIdle_rests (s := s.taken _) (c := .a) (hrests.imp_right And.left),
      State.countIdle_rests (s := s.taken _) (c := .b) (hrests.imp_right And.right)]
    rfl
  · rintro s base lotNo hdrop rfl
    rw [exec_closeLot hdrop]
    refine ⟨fun hother => ?_, ⟨_, _, State.closeCradleOfLot_closed _ lotNo .a, State.closeCradleOfLot_closed _ lotNo .b,
      rfl⟩, fun hall => ?_⟩
    · rw [State.closeCradleOfLot_other (s := s.taken _) (c := .a) (hother .a),
        State.closeCradleOfLot_other (s := s.taken _) (c := .b) (hother .b)]
      rfl
    · have hclose {u : State} {c : CradleId} (hu : u.cradle c = s.cradle c) :
          u.closeCradleOfLot lotNo c = u.enterReady c := by
        obtain ⟨hopen, hwon, htentative, b, hb, rfl⟩ := hall c
        rw [← hu] at hopen hwon htentative hb
        rw [State.closeCradleOfLot_own hb, State.closeCradle_ready hopen hwon htentative]
      have hother : ((s.taken (.closeLot lotNo)).enterReady .a).cradle .b = s.cradle .b :=
        State.enterReady_cradle_ne (by decide)
      rw [hclose (u := s.taken _) (c := .a) rfl, hclose hother]
      rfl
  · rintro s base held hrole hmode rfl
    rw [exec_holdNoticeCradle ⟨hrole, hmode⟩]
    refine ⟨fun hheld => by rw [if_pos hheld], fun hheld => ?_⟩
    subst hheld
    exact ⟨_, _, State.judgeIdleCloseIfReady_judged rfl, State.judgeIdleCloseIfReady_judged
      State.judgeIdleCloseIfReady_held, rfl⟩

/-! ### The head of the tie queue (R132) -/

theorem State.noticeHead_ready (hhead : s.cradles.tieQueue.head? = some d) (hready : (s.cradle d).state = .ready) :
    s.noticeHead = s.hand .queueNotice := by
  simp only [State.noticeHead, State.readyHead_eq_some_iff.mpr ⟨hhead, hready⟩]

theorem State.noticeHead_rests (h : ∀ d, s.cradles.tieQueue.head? = some d → (s.cradle d).state ≠ .ready) :
    s.noticeHead = s := by
  unfold State.noticeHead
  split
  · rfl
  · next d hhead =>
    obtain ⟨hfirst, hready⟩ := State.readyHead_eq_some_iff.mp hhead
    exact absurd hready (h d hfirst)

/-- The cradles and the queue that a cradle's leaving leaves of `s`, for the judgment of the new head. -/
structure State.LeftQueue (s : State) (c : CradleId) (t : State) : Prop where
  queue : t.cradles.tieQueue = s.cradles.tieQueue.filter (fun d => d != c)
  others : ∀ d, d ≠ c → t.cradle d = s.cradle d

theorem State.LeftQueue.cradle_of_head (h : s.LeftQueue c t) (hd : t.cradles.tieQueue.head? = some d) :
    t.cradle d = s.cradle d := by
  have hmem : d ∈ s.cradles.tieQueue.filter (fun d => d != c) := h.queue ▸ List.mem_of_mem_head? hd
  exact h.others d (bne_iff_ne.mp (List.mem_filter.mp hmem).2)

theorem State.LeftQueue.noticed (h : s.LeftQueue c t)
    (hd : (s.cradles.tieQueue.filter (fun d => d != c)).head? = some d) (hready : (s.cradle d).state = .ready) :
    t.noticeHead = t.hand .queueNotice := by
  rw [← h.queue] at hd
  exact State.noticeHead_ready hd (by rwa [h.cradle_of_head hd])

theorem State.LeftQueue.unnoticed (h : s.LeftQueue c t)
    (hnone : ∀ d, (s.cradles.tieQueue.filter (fun d => d != c)).head? = some d → (s.cradle d).state ≠ .ready) :
    t.noticeHead = t :=
  State.noticeHead_rests fun d hd => by
    rw [h.cradle_of_head hd]
    exact hnone d (h.queue ▸ hd)

theorem State.leftQueue_setCradle (s : State) (c : CradleId) (k : Cradle) :
    s.LeftQueue c ((s.leaveTieQueue c).setCradle c k) where
  queue := by simp
  others d hd := by rw [State.setCradle_cradle_ne _ k hd, State.leaveTieQueue_cradle]

theorem State.LeftQueue.of_cradles {u : State} (h : s.LeftQueue c t) (hu : u.cradles = t.cradles) : s.LeftQueue c u where
  queue := hu ▸ h.queue
  others d hd := (State.cradle_of_cradles hu d).trans (h.others d hd)

/-! ### Clears (R128, R129) -/

theorem State.setClearFilter_cradle (s : State) (c : CradleId) (f : Filter) (d : CradleId) :
    (s.setClearFilter c f).cradle d = s.cradle d := by
  cases c <;> cases d <;> rfl

theorem State.setClearFilter_tieQueue (s : State) (c : CradleId) (f : Filter) :
    (s.setClearFilter c f).cradles.tieQueue = s.cradles.tieQueue := by
  cases c <;> rfl

/-- A clear from READY, before the notice of the new head. -/
def State.readyCleared (c : CradleId) (s : State) : State := ((s.leaveTieQueue c).enterEmpty c).bump .voidedBunches

theorem State.readyCleared_left (s : State) (c : CradleId) : s.LeftQueue c (s.readyCleared c) :=
  (s.leftQueue_setCradle c Cradle.emptyRecord).of_cradles rfl

theorem State.clearReady_unnoticed (h : s.cradles.tieQueue.head? ≠ some c
    ∨ ∀ d, (s.cradles.tieQueue.filter (fun d => d != c)).head? = some d → (s.cradle d).state ≠ .ready) :
    s.clearReady c = s.readyCleared c := by
  rcases h with hhead | hnone
  · exact if_neg (by simpa [State.isHead] using hhead)
  · change (if _ then (s.readyCleared c).noticeHead else s.readyCleared c) = _
    rw [(s.readyCleared_left c).unnoticed hnone, ite_self]

theorem State.clearReady_noticed (hhead : s.cradles.tieQueue.head? = some c)
    (hd : (s.cradles.tieQueue.filter (fun d => d != c)).head? = some d) (hready : (s.cradle d).state = .ready) :
    s.clearReady c = (s.readyCleared c).hand .queueNotice :=
  (if_pos (by simp [State.isHead, hhead])).trans ((s.readyCleared_left c).noticed hd hready)

/-- R129: the bunch voided, the clear notices handed over. -/
def State.boundVoided (c : CradleId) (s : State) : State :=
  ((s.setCradle c (s.cradle c).voidRecord).bump .voidedBunches).handAll
    [.clearNoticeFlightTable c, .clearNoticeRelease c]

theorem State.boundVoided_cradle (s : State) (c : CradleId) :
    (s.boundVoided c).cradle c = (s.cradle c).voidRecord :=
  (State.cradle_of_cradles rfl c).trans (s.setCradle_cradle c (s.cradle c).voidRecord)

theorem State.clearBound_eq (s : State) (c : CradleId) : s.clearBound c
    = if (s.cradle c).won = 0 ∧ (s.cradle c).tentative = 0 then (s.boundVoided c).enterEmpty c else s.boundVoided c :=
  State.judgeCradle_void (k := (s.cradle c).voidRecord) (s.boundVoided_cradle c) rfl

theorem State.clearCradle_bound (h : (s.cradle c).state = .opened
    ∨ ((s.cradle c).state = .sealed ∧ (s.cradle c).pending ≠ .void)) : s.clearCradle c = s.clearBound c := by
  rcases h with hopen | ⟨hsealed, hpending⟩
  · simp only [State.clearCradle, hopen]
  · simp only [State.clearCradle, hsealed, if_neg hpending]

theorem State.clearCradle_rests (h : (s.cradle c).state = .empty ∨ (s.cradle c).state = .tying
    ∨ ((s.cradle c).state = .sealed ∧ (s.cradle c).pending = .void)) : s.clearCradle c = s := by
  rcases h with hempty | htying | ⟨hsealed, hpending⟩
  · simp only [State.clearCradle, hempty]
  · simp only [State.clearCradle, htying]
  · simp only [State.clearCradle, hsealed, if_pos hpending]

theorem State.clearCradle_ready (h : (s.cradle c).state = .ready) : s.clearCradle c = s.clearReady c := by
  simp only [State.clearCradle, h]

theorem State.clearCradle_faulted (h : (s.cradle c).state = .faulted) : s.clearCradle c = s.enterEmpty c := by
  simp only [State.clearCradle, h]

theorem exec_clear (h : s.dropLoaded) (hedge : (s.clearFilter c).admitsEdge = true) :
    exec (.clear c) s = .next ((s.setClearFilter c .held).clearCradle c) :=
  congrArg Host.Outcome.next (if_pos ⟨h, hedge⟩)

/-- Settles O47: the clear by the cradle's state, on the state with its filter held. -/
theorem clearIsTakenByTheCradleState : Obligations.ClearIsTakenByTheCradleState := by
  rintro s base c k hdrop hedge hkeep hbase
  have hk (d : CradleId) : base.cradle d = s.cradle d := hbase ▸ s.setClearFilter_cradle c .held d
  have hqueue : base.cradles.tieQueue = s.cradles.tieQueue := hbase ▸ s.setClearFilter_tieQueue c .held
  rw [exec_clear hdrop hedge, ← hbase, hkeep, ← hk c]
  refine ⟨fun hrests => by rw [State.clearCradle_rests hrests], fun hfaulted => by rw [State.clearCradle_faulted hfaulted],
    ?_, ?_⟩
  · rintro others hready rfl
    simp only [← hqueue, ← hk]
    rw [State.clearCradle_ready hready]
    exact ⟨fun hrests => congrArg Host.Outcome.next (State.clearReady_unnoticed hrests),
      fun d hhead hd hnext => congrArg Host.Outcome.next (State.clearReady_noticed hhead hd hnext)⟩
  · rintro noticed hbound rfl
    rw [State.clearCradle_bound hbound, State.clearBound_eq]
    refine ⟨fun hwon htentative => ?_, fun hleft => ?_⟩
    · rw [if_pos ⟨hwon, htentative⟩]
      rfl
    · rw [if_neg (not_and_or.mpr hleft)]
      rfl

/-! ### Tie results and marks (R134, R135) -/

/-- A tie's end, before the notice of the new head: EMPTY at TIED and REWORK, FAULTED with the flag otherwise. -/
def State.tieClosed (c : CradleId) (code : TieCode) (s : State) : State :=
  if code = .tied ∨ code = .rework then (s.leaveTieQueue c).enterEmpty c
  else ((s.leaveTieQueue c).setCradle c { s.cradle c with state := .faulted }).raise .tieFault

theorem State.takeTieResult_tying (h : (s.cradle c).state = .tying) (code : TieCode) :
    s.takeTieResult c code = (s.tieClosed c code).noticeHead := by
  rw [State.takeTieResult, if_pos h]
  cases code <;> simp [State.tieClosed]

theorem State.tieClosed_left (s : State) (c : CradleId) (code : TieCode) : s.LeftQueue c (s.tieClosed c code) := by
  unfold State.tieClosed
  split
  · exact (s.leftQueue_setCradle c Cradle.emptyRecord).of_cradles rfl
  · exact (s.leftQueue_setCradle c _).of_cradles rfl

theorem exec_tieResult (h : s.dropLoaded) (code : TieCode) :
    exec (.tieResult c code) s = .next ((s.taken (.tieResult c code)).takeTieResult c code) :=
  congrArg Host.Outcome.next (if_pos h)

/-- Settles O48: the cradle leaves the tie queue, then the new head is judged. -/
theorem tieResultAndUncertainMark : Obligations.TieResultAndUncertainMark := by
  intro s base c code hdrop
  rw [exec_tieResult hdrop]
  refine ⟨congrArg Host.Outcome.next (if_pos hdrop), fun hother => congrArg Host.Outcome.next (if_neg hother), ?_⟩
  rintro others ended htying rfl hbase hended
  have hclosed : ended = (s.taken (.tieResult c code)).tieClosed c code := by rw [hended, hbase]; rfl
  have hleft := (s.taken (.tieResult c code)).tieClosed_left c code
  rw [← hclosed] at hleft
  rw [State.takeTieResult_tying (s := s.taken _) htying, ← hclosed]
  exact ⟨fun hnone => congrArg Host.Outcome.next (hleft.unnoticed hnone),
    fun d hd hready => congrArg Host.Outcome.next (hleft.noticed hd hready)⟩

end Sys2Proof.Machine
end

section
/-! SUPPORT. Proofs of the statements on releases: what leaves the Release Unit alone, its own operations and its
ranges under every command, hold and clear notices, gate edges, timers, carrier steps and hand-overs. -/

namespace Sys2Proof.Machine

variable {s t : State}

/-! ### The Release Unit under the operations of other blocks -/

/-- A walk whose every stride leaves the Release Unit leaves it. -/
theorem foldl_release {α : Type} (f : State → α → State) (hf : ∀ t a, (f t a).release = t.release) (l : List α)
    (s : State) : (l.foldl f s).release = s.release :=
  foldl_keeps (fun t => t.release = s.release) f (fun t a h => (hf t a).trans h) l s rfl

theorem State.release_of_offer {f : Frame} {answer : OfferAnswer} (h : s.offer f = (answer, t)) :
    t.release = s.release := by
  have hframe := s.offer_frame f
  rw [h] at hframe
  obtain ⟨-, -, -, -, -, -, -, hrelease, -⟩ := hframe
  exact hrelease

theorem State.release_of_requestRemoval {b : FrameBody} {answer : RemovalAnswer}
    (h : s.requestRemoval b = (answer, t)) : t.release = s.release := by
  have hframe := s.requestRemoval_frame b
  rw [h] at hframe
  obtain ⟨-, -, -, -, -, -, -, hrelease, -⟩ := hframe
  exact hrelease

@[simp] theorem State.claim_release (e : FlightEntry) (service : ServiceEntry) (c : CradleId) :
    (s.claim e service c).release = s.release := by
  unfold State.claim
  dsimp only
  split <;> next answer => simp [State.release_of_offer answer]

@[simp] theorem State.judgeEntry_release (slot : Slot) : (s.judgeEntry slot).release = s.release := by
  unfold State.judgeEntry
  (repeat' split) <;> simp

@[simp] theorem State.runPass_release : s.runPass.release = s.release := foldl_release _ (by simp) _ _

@[simp] theorem State.takeCarrierNotice_release (here : Slot) : (s.takeCarrierNotice here).release = s.release :=
  foldl_release _ (by simp) _ _

@[simp] theorem State.claimDeadlines_release (here : Slot) : (s.claimDeadlines here).release = s.release :=
  foldl_release _ (by simp) _ _

@[simp] theorem State.ordinaryArrival_release (a : Arrival) : (s.ordinaryArrival a).release = s.release := by
  simp [State.ordinaryArrival, foldl_release]

@[simp] theorem State.slipArrival_release (a : Arrival) : (s.slipArrival a).release = s.release := by
  simp [State.slipArrival, State.replace, foldl_release]

@[simp] theorem State.giveBackAll_release (reason : YieldReason) : (s.giveBackAll reason).release = s.release :=
  foldl_release _ (by simp) _ _

@[simp] theorem State.giveBackCradle_release (c : CradleId) : (s.giveBackCradle c).release = s.release :=
  foldl_release _ (by simp) _ _

@[simp] theorem State.workWatch_release (here : Slot) : (s.workWatch here).release = s.release :=
  foldl_release _ (by simp) _ _

@[simp] theorem State.noteCut_release (results : List (Option ScanResult)) : (s.noteCut results).release = s.release :=
  foldl_release _ (fun t r => by split <;> simp) _ _

@[simp] theorem State.cutWindow_release : s.cutWindow.release = s.release := by
  unfold State.cutWindow
  split <;> simp

@[simp] theorem State.openMeasure_release (a : Arrival) : (s.openMeasure a).release = s.release := rfl

@[simp] theorem State.missAcknowledge_release : s.missAcknowledge.release = s.release := by
  unfold State.missAcknowledge
  (repeat' split) <;> rfl

@[simp] theorem State.retryRead_release : s.retryRead.release = s.release := by
  unfold State.retryRead
  split <;> rfl

theorem execRemovalRequest_release (body : FrameBody) :
    ∃ t, execRemovalRequest body s = .next t ∧ t.release = s.release := by
  refine ⟨_, rfl, ?_⟩
  split
  · split <;> next answer => simp [State.release_of_requestRemoval answer]
  · rfl

/-! ### The commands that move the Release Unit -/

/-- The commands of the Release Unit, the notices with a held copy, and those that take a configuration in or out of
use. -/
def movesRelease : Instr → Bool
  | .reset | .recordReadComplete _ | .modeNotice _ _ | .haltNotice _ _ => true
  | .releaseHandover _ _ _ | .releaseCarrierStep _ | .filteredGateEdge => true
  | .flapSettleExpiry | .delayExpiry | .pulseEndExpiry | .confirmationWindowExpiry => true
  | .holdNoticeReleaseUnit _ | .clearNoticeRelease _ => true
  | _ => false

/-- Every other command leaves the Release Unit alone. -/
theorem exec_release (i : Instr) (hi : movesRelease i = false) : ∃ t, exec i s = .next t ∧ t.release = s.release := by
  cases i with
  | reset | recordReadComplete _ | modeNotice _ _ | haltNotice _ _ | releaseHandover _ _ _ | releaseCarrierStep _
  | filteredGateEdge | flapSettleExpiry | delayExpiry | pulseEndExpiry | confirmationWindowExpiry
  | holdNoticeReleaseUnit _ | clearNoticeRelease _ => cases hi
  -- the loader, the inputs and the tracker
  | resetRelease _ _ | announceTimerExpiry | stall | holdLevelChange _ => exact ⟨_, rfl, by split <;> rfl⟩
  | memoryNoAcknowledge | retryWaitExpiry | helloOutcome _ | filterInputAsserted _ | filterInputReleased _
  | cpQualification _ => exact ⟨_, rfl, by (repeat' split) <;> simp⟩
  -- the line and its queue
  | removalRequest body => exact execRemovalRequest_release body
  | idleGapComplete | dominantLevelInWaitGap | contentionWindow | contentionLost | contentionDriveFailed | contentionWon
  | spoil | frameSent | frameHeard _ | frameDiscarded _ | stuckEntry | stuckExit | carrierNotice _ =>
    exact ⟨_, rfl, by (repeat' split) <;> simp⟩
  -- the gauge
  | gaugeCarrierArrival _ | scanDue _ | srdyAsserted | scanRecordComplete _ | responseLimitExpiry | lotPress
  | gaugeStemHeard _ _ | gaugeClaimHeard _ | gaugeYieldHeard _ | stemOutcome _ _ | lotOutcome _ _ _ =>
    exact ⟨_, rfl, by (repeat' split) <;> simp⟩
  -- the flight table and the claim engine
  | flightTableStem _ _ _ | flightTableClaim _ _ _ | flightTableYield _ _ _ | flightTableLot _ _
  | flightTableCarrierArrival _ | clearNoticeFlightTable _ | claimOutcome _ _ | claimEngineCarrierArrival _
  | passRequest | holdAssertion | holdRelease | yieldRequest _ _ | yieldOutcome _ _ _ =>
    exact ⟨_, rfl, by (repeat' split) <;> simp⟩
  -- the cradles, the tie port and the status port
  | win _ | returnCount _ | miss _ | place _ | cradleCarrierArrival _ | closeLot _ | clear _ | tieResult _ _
  | uncertainMark _ | queueNotice | recordShifted | tackEdge | tdoneEdge | ackLimitExpiry | tieLimitExpiry
  | statusWordComplete _ | snapshot | sselRelease | lampFlashToggle =>
    exact ⟨_, rfl, by (repeat' split) <;> simp⟩
  | ackPress => exact ⟨_, rfl, by split <;> rfl⟩
  | holdNoticeCradle _ | holdNoticeTiePort _ => exact ⟨_, rfl, by dsimp only; (repeat' split) <;> simp⟩

end Sys2Proof.Machine
end

section
namespace Sys2Proof.Machine

variable {s t : State} {r : ReleaseRecord} {c : CradleId}

/-! ### The flap (R144) -/

theorem State.judgeFlap_of_none (h : s.release.delayed = none) : s.judgeFlap = s := by
  unfold State.judgeFlap
  cases s.release.window <;> simp only [h]

theorem State.judgeFlap_of_open (h : s.release.window ≠ none) : s.judgeFlap = s := by
  unfold State.judgeFlap
  split
  case h_1 hclosed => exact absurd hclosed h
  all_goals rfl

theorem State.judgeFlap_of_closed (hr : s.release.delayed = some r) (hw : s.release.window = none) :
    s.judgeFlap = { s with release := { s.release with
      flap := r.cradle
      settle := if r.cradle = s.release.flap then s.release.settle else some s.cfg.settleTime } } := by
  have hjudged : s.judgeFlap = if r.cradle = s.release.flap then s else
      { s with release := { s.release with flap := r.cradle, settle := some s.cfg.settleTime } } := by
    simp only [State.judgeFlap, hr, hw]
  rw [hjudged]
  split
  case isTrue hsame => rw [hsame]
  case isFalse => rfl

theorem State.judgeFlap_of_some (hr : s.release.delayed = some r) :
    s.judgeFlap = { s with release := { s.release with
      flap := if s.release.window = none then r.cradle else s.release.flap
      settle := if s.release.window = none ∧ s.release.flap ≠ r.cradle then some s.cfg.settleTime
        else s.release.settle } } := by
  by_cases hw : s.release.window = none
  · rw [State.judgeFlap_of_closed hr hw, if_pos hw]
    by_cases hsame : r.cradle = s.release.flap
    · rw [if_pos hsame, if_neg fun h => h.2 hsame.symm]
    · rw [if_neg hsame, if_pos ⟨hw, Ne.symm hsame⟩]
  · rw [State.judgeFlap_of_open hw, if_neg hw, if_neg fun h => hw h.1]

/-- A judgment that finds FLAP at the record's cradle. -/
theorem State.judgeFlap_of_named (hr : s.release.delayed = some r) (hflap : s.release.flap = r.cradle) :
    s.judgeFlap = s := by
  rw [State.judgeFlap_of_some hr, ← hflap, ite_self, if_neg (by simp)]

/-! ### Making a record (R140) -/

/-- R140: the time for the pulse is enough. -/
abbrev State.hasTimeFor (s : State) (period : Ticks) : Prop :=
  s.cfg.releaseGuard + fractionTicks period s.cfg.releaseFraction + s.cfg.pulseMinimum ≤ period

theorem State.makeRecord_made {period : Ticks} (h : s.hasTimeFor period) (slot : Slot) (c : CradleId) :
    s.makeRecord slot c period = { s with release := { s.release with
      delayed := some ⟨slot, c, period, pulseWidthFor s.cfg
        (period - s.cfg.releaseGuard - fractionTicks period s.cfg.releaseFraction), .delay, false⟩
      delayTimer := some (fractionTicks period s.cfg.releaseFraction)
      flap := if s.release.window = none then c else s.release.flap
      settle := if s.release.window = none ∧ s.release.flap ≠ c then some s.cfg.settleTime
        else s.release.settle } } := by
  refine (if_pos h).trans ?_
  rw [State.judgeFlap_of_some (r := ⟨slot, c, period, _, .delay, false⟩) rfl]
  rfl

theorem State.makeRecord_skipped {period : Ticks} (h : ¬ s.hasTimeFor period) (slot : Slot) (c : CradleId) :
    s.makeRecord slot c period = s.skipRelease slot c :=
  if_neg h

/-! ### The carrier step (R141) -/

@[simp] theorem State.cutPulse_release : s.cutPulse.release = { s.release with
    rel := false
    pulseTimer := if s.release.rel = true then none else s.release.pulseTimer
    window := if s.release.rel = true then s.release.window.map (windowPhase .window) else s.release.window } := by
  unfold State.cutPulse
  split
  case isTrue => rfl
  case isFalse hoff => rw [← Bool.eq_false_of_not_eq_true hoff]

theorem State.dropOvertaken_none (h : s.release.delayed = none) (slip : Bool) : s.dropOvertaken slip = s := by
  simp [State.dropOvertaken, h]

theorem State.dropOvertaken_some (hr : s.release.delayed = some r) (slip : Bool) :
    s.dropOvertaken slip = if slip = true then s.dropDelay.giveUp r.slot r.cradle .void
      else s.dropDelay.skipRelease r.slot r.cradle := by
  simp [State.dropOvertaken, hr]

@[simp] theorem State.dropOvertaken_release (slip : Bool) : (s.dropOvertaken slip).release = { s.release with
    delayed := none
    delayTimer := if s.release.delayed = none then s.release.delayTimer else none } := by
  cases hr : s.release.delayed with
  | none => rw [State.dropOvertaken_none hr, if_pos rfl, ← hr]
  | some r =>
    rw [State.dropOvertaken_some hr]
    cases slip <;> simp

/-! ### Windows and pulses (R145, R146) -/

@[simp] theorem State.closeWindow_release (w : ConfirmationWindow) :
    (s.closeWindow w).release = { s.release with window := none } := by
  unfold State.closeWindow
  split <;> simp

@[simp] theorem State.closeOpenWindow_release : s.closeOpenWindow.release = { s.release with window := none } := by
  unfold State.closeOpenWindow
  split
  · next hw => rw [← hw]
  · exact State.closeWindow_release _

/-- R145: the judgment at the close of the older window finds FLAP at the record's cradle. -/
theorem State.startPulse_eq (hr : s.release.delayed = some r) (hflap : s.release.flap = r.cradle) :
    s.startPulse r = { s.closeOpenWindow with release := { s.release with
      delayed := none, delayTimer := none, rel := true, pulseTimer := some r.width
      window := some ⟨r.cradle, s.cfg.confirmTime, 0, some { r with phase := .pulse }⟩ } } := by
  have hcfg : s.closeOpenWindow.cfg = s.cfg := State.cfg_of_record_eq (by simp)
  have hkept : s.closeOpenWindow.judgeFlap = s.closeOpenWindow :=
    State.judgeFlap_of_named (r := r) (by simpa using hr) (by simpa using hflap)
  simp only [State.startPulse, hkept, hcfg, State.closeOpenWindow_release]

theorem ReleaseUnit.settledAt_iff {u : ReleaseUnit} : u.settledAt c = true ↔ u.flap = c ∧ u.settle = none := by
  simp [ReleaseUnit.settledAt]

end Sys2Proof.Machine
end

section
namespace Sys2Proof.Machine

variable {s t : State} {u : ReleaseUnit} {cfg : StationConfig}

/-! ### The ranges of the Release Unit (R140, R144, R145) -/

/-- What `State.releaseSound` asks of the unit, with the configuration in use. -/
structure ReleaseUnit.Sound (cfg : StationConfig) (u : ReleaseUnit) : Prop where
  flap : ∀ w, u.window = some w → u.flap = w.cradle
  pulse : ∀ n, u.pulseTimer = some n → n ≤ cfg.pulseWidth
  rel : u.rel = true ↔ u.pulseTimer ≠ none
  width : ∀ r, u.delayed = some r → r.width ≤ cfg.pulseWidth
  delay : u.delayed = none ↔ u.delayTimer = none

theorem State.releaseSound_iff : s.releaseSound ↔ s.idleBeforeLoad ∧ s.release.Sound s.cfg :=
  and_congr_right fun _ => ⟨fun ⟨hflap, hpulse, hrel, hwidth, hdelay⟩ => ⟨hflap, hpulse, hrel, hwidth, hdelay⟩,
    fun ⟨hflap, hpulse, hrel, hwidth, hdelay⟩ => ⟨hflap, hpulse, hrel, hwidth, hdelay⟩⟩

theorem countDown_eq_map (timer : Option Ticks) : countDown timer = timer.map (· - 1) := by
  cases timer <;> rfl

theorem countDown_eq_none_iff {timer : Option Ticks} : countDown timer = none ↔ timer = none := by
  rw [countDown_eq_map, Option.map_eq_none_iff]

namespace ReleaseUnit.Sound

/-- R153: no timer runs and no window is open, in any configuration. -/
theorem reset (cfg : StationConfig) : ReleaseUnit.reset.Sound cfg := by
  constructor <;> simp [ReleaseUnit.reset]

/-- Neither the held copy nor the settle timer nor the pulse last stepped is ranged. -/
theorem of_same {v : ReleaseUnit} (h : u.Sound cfg) (hv : v = { u with
    held := v.held, settle := v.settle, lastStep := v.lastStep }) : v.Sound cfg := by
  rw [hv]
  exact { flap := h.flap, pulse := h.pulse, rel := h.rel, width := h.width, delay := h.delay }

theorem dropDelay (h : u.Sound cfg) : { u with delayed := none, delayTimer := none }.Sound cfg :=
  { h with width := nofun, delay := iff_of_true rfl rfl }

theorem endPulse (h : u.Sound cfg) : { u with rel := false, pulseTimer := none }.Sound cfg :=
  { h with pulse := nofun, rel := by simp }

/-- The window may change, but not its cradle (R147, R150). -/
theorem mapWindow (h : u.Sound cfg) {f : ConfirmationWindow → ConfirmationWindow} (hf : ∀ w, (f w).cradle = w.cradle) :
    { u with window := u.window.map f }.Sound cfg :=
  { h with
    flap := fun w hw => by
      obtain ⟨v, hv, rfl⟩ := Option.map_eq_some_iff.mp hw
      exact (h.flap v hv).trans (hf v).symm }

theorem setWindow (h : u.Sound cfg) {w : ConfirmationWindow} (hw : u.flap = w.cradle) :
    { u with window := some w }.Sound cfg :=
  { h with flap := by simpa using hw }

theorem closeWindow (h : u.Sound cfg) : { u with window := none }.Sound cfg := { h with flap := nofun }

/-- R144: the flap moves with no window open. -/
theorem moveFlap (h : u.Sound cfg) (hw : u.window = none) (c : CradleId) (left : Option Ticks) :
    { u with flap := c, settle := left }.Sound cfg :=
  { h with flap := fun w hopen => by simp [hw] at hopen }

/-- R140: a width of at most W, with its timer. -/
theorem makeRecord (h : u.Sound cfg) {r : ReleaseRecord} (hr : r.width ≤ cfg.pulseWidth) (delay : Ticks) :
    { u with delayed := some r, delayTimer := some delay }.Sound cfg :=
  { h with
    width := by simpa using hr
    delay := iff_of_false nofun nofun }

/-- R145: the window opens with FLAP at its record's cradle, the pulse with its width. -/
theorem startPulse (h : u.Sound cfg) {r : ReleaseRecord} (hr : u.delayed = some r) {w : ConfirmationWindow}
    (hflap : u.flap = w.cradle) :
    { u with delayed := none, delayTimer := none, rel := true, pulseTimer := some r.width, window := some w }.Sound
      cfg where
  flap := by simpa using hflap
  pulse := by simpa using h.width r hr
  rel := iff_of_true rfl nofun
  width := nofun
  delay := iff_of_true rfl rfl

theorem tick (h : u.Sound cfg) : (tickRelease u).Sound cfg where
  flap w hw := (h.mapWindow (f := fun w => { w with left := w.left - 1 }) fun _ => rfl).flap w hw
  pulse n hn := by
    obtain ⟨m, hm, rfl⟩ := Option.map_eq_some_iff.mp ((countDown_eq_map _).symm.trans hn)
    exact (Nat.sub_le m 1).trans (h.pulse m hm)
  rel := h.rel.trans (not_congr countDown_eq_none_iff.symm)
  width := h.width
  delay := h.delay.trans countDown_eq_none_iff.symm

end ReleaseUnit.Sound

/-! ### The unit's operations keep its ranges -/

theorem releaseSound_ite {p : Prop} [Decidable p] {a b : State} (ha : p → a.release.Sound cfg)
    (hb : ¬ p → b.release.Sound cfg) : (if p then a else b).release.Sound cfg := by
  split
  case isTrue hp => exact ha hp
  case isFalse hp => exact hb hp

section
variable (h : s.release.Sound s.cfg)
include h

theorem State.carrierStep_sound (slip : Bool) : (s.carrierStep slip).release.Sound s.cfg := by
  have hcut : s.cutPulse.release.Sound s.cfg :=
    releaseSound_ite (fun _ => h.endPulse.mapWindow (f := windowPhase .window) fun _ => rfl) fun _ => h
  unfold State.carrierStep State.dropOvertaken
  split
  · exact hcut
  · exact releaseSound_ite (fun _ => hcut.dropDelay) fun _ => hcut.dropDelay

theorem State.stepOnce_sound (slot : Slot) : (s.stepOnce slot).release.Sound s.cfg :=
  releaseSound_ite (fun _ => h) fun _ => (State.carrierStep_sound h false).of_same rfl

theorem State.makeRecord_sound (slot : Slot) (c : CradleId) (period : Ticks) :
    (s.makeRecord slot c period).release.Sound s.cfg := by
  by_cases hfits : s.hasTimeFor period
  · rw [State.makeRecord_made hfits]
    have hmade := h.makeRecord (r := ⟨slot, c, period, pulseWidthFor s.cfg
      (period - s.cfg.releaseGuard - fractionTicks period s.cfg.releaseFraction), .delay, false⟩)
      (Nat.min_le_left _ _) (fractionTicks period s.cfg.releaseFraction)
    by_cases hw : s.release.window = none
    · exact hmade.moveFlap hw _ _
    · rw [if_neg hw]
      exact hmade.of_same rfl
  · rw [State.makeRecord_skipped hfits]
    exact h

theorem State.takeHandover_sound (slot : Slot) (c : CradleId) (period : Ticks) :
    (s.takeHandover slot c period).release.Sound s.cfg := by
  have hstepped := State.stepOnce_sound h slot
  have hcfg : (s.stepOnce slot).cfg = s.cfg := State.cfg_of_record_eq (by simp)
  rw [← hcfg] at hstepped ⊢
  exact releaseSound_ite (fun _ => hstepped) fun _ => releaseSound_ite (fun _ => hstepped)
    fun _ => State.makeRecord_sound hstepped slot c period

theorem execDelayExpiry_sound : ∃ t, execDelayExpiry s = .next t ∧ t.release.Sound s.cfg := by
  refine ⟨_, rfl, releaseSound_ite (fun _ => ?_) fun _ => h⟩
  split
  · exact h
  · next r hr =>
    refine releaseSound_ite (fun hsettled => ?_) fun _ => h.dropDelay
    obtain ⟨hflap, -⟩ := ReleaseUnit.settledAt_iff.mp hsettled
    rw [State.startPulse_eq hr hflap]
    exact h.startPulse hr hflap

/-- R146: with the window closed the flap may move. -/
theorem execConfirmationWindowExpiry_sound :
    ∃ t, execConfirmationWindowExpiry s = .next t ∧ t.release.Sound s.cfg := by
  refine ⟨_, rfl, releaseSound_ite (fun _ => ?_) fun _ => h⟩
  split
  · exact h
  · next w _ =>
    have hclosed : (s.closeWindow w).release.Sound s.cfg := by
      rw [State.closeWindow_release]
      exact h.closeWindow
    cases hr : (s.closeWindow w).release.delayed with
    | none => rwa [State.judgeFlap_of_none hr]
    | some r =>
      rw [State.judgeFlap_of_closed hr (by simp)]
      exact hclosed.moveFlap (by simp) _ _

/-- R147: an edge leaves the window its cradle. -/
theorem State.judgeEdge_sound : s.judgeEdge.release.Sound s.cfg := by
  unfold State.judgeEdge
  split
  · exact h
  · next w hw =>
    split
    · split
      · exact releaseSound_ite (fun _ => h) fun _ => h.setWindow (h.flap w hw)
      · exact h
    · exact h.setWindow (h.flap w hw)

theorem State.cancelCleared_sound (c : CradleId) : (s.cancelCleared c).release.Sound s.cfg := by
  unfold State.cancelCleared
  split
  · exact h
  · exact releaseSound_ite (fun _ => h.dropDelay) fun _ => h

end

/-- R152: REL off, no record and no window. -/
theorem State.haltReleaseUnit_sound (held : Bool) : (s.haltReleaseUnit held).release.Sound cfg := by
  constructor <;> simp [State.haltReleaseUnit]

/-! ### Every command keeps the Release Unit sound -/

/-- Every command but the two that take a configuration in or out of use keeps the ranges. -/
theorem exec_releaseRanges {i : Instr} (hreset : i ≠ .reset) (hread : ∀ bytes, i ≠ .recordReadComplete bytes)
    (h : s.release.Sound s.cfg) : ∃ t, exec i s = .next t ∧ t.release.Sound s.cfg := by
  cases hi : movesRelease i with
  | false =>
    obtain ⟨t, ht, hrelease⟩ := exec_release (s := s) i hi
    exact ⟨t, ht, hrelease ▸ h⟩
  | true =>
    cases i with
    | reset => exact absurd rfl hreset
    | recordReadComplete bytes => exact absurd rfl (hread bytes)
    | modeNotice block held =>
      refine ⟨_, rfl, releaseSound_ite (fun _ => ?_) fun _ => h⟩
      cases block with
      | releaseUnit => exact h.of_same rfl
      | tiePort => simpa [State.takeModeNotice] using h
      | lineBus | gaugeUnit | flightTable | claimEngine | cradleManager => exact h
    | haltNotice block held =>
      refine ⟨_, rfl, releaseSound_ite (fun _ => ?_) fun _ => h⟩
      cases block with
      | releaseUnit => exact releaseSound_ite (fun _ => State.haltReleaseUnit_sound held) fun _ => h
      | lineBus => simpa [State.takeHaltNotice] using h
      | gaugeUnit | flightTable => exact releaseSound_ite (fun _ => by simpa using h) fun _ => h
      | cradleManager | tiePort => exact releaseSound_ite (fun _ => h) fun _ => h
      | claimEngine => exact h
    | releaseHandover slot c period =>
      exact ⟨_, rfl, releaseSound_ite (fun _ => State.takeHandover_sound (s := s.taken _) h slot c period)
        fun _ => releaseSound_ite (fun _ => h) fun _ => h⟩
    | releaseCarrierStep a =>
      exact ⟨_, rfl, releaseSound_ite (fun _ => releaseSound_ite
        (fun _ => (State.carrierStep_sound (s := s.taken _) h true).of_same rfl)
        fun _ => State.stepOnce_sound (s := s.taken _) h a.slotHere) fun _ => h⟩
    | filteredGateEdge =>
      exact ⟨_, rfl, releaseSound_ite (fun _ => releaseSound_ite
        (fun _ => State.judgeEdge_sound (s := s.setGateFilter .held) h) fun _ => h) fun _ => h⟩
    | flapSettleExpiry => exact ⟨_, rfl, releaseSound_ite (fun _ => h.of_same rfl) fun _ => h⟩
    | delayExpiry => exact execDelayExpiry_sound h
    | pulseEndExpiry =>
      exact ⟨_, rfl, releaseSound_ite (fun _ => h.endPulse.mapWindow (f := windowPhase .window) fun _ => rfl)
        fun _ => h⟩
    | confirmationWindowExpiry => exact execConfirmationWindowExpiry_sound h
    | holdNoticeReleaseUnit held =>
      have hset : { s.release with held := held }.Sound s.cfg := h.of_same rfl
      refine ⟨_, rfl, releaseSound_ite (fun _ => releaseSound_ite (fun _ => ?_) fun _ => hset) fun _ => h⟩
      split
      · exact hset
      · exact hset.dropDelay
    | clearNoticeRelease c =>
      have hmarked : { s.release with window := s.release.window.map (markCleared c) }.Sound s.cfg :=
        h.mapWindow fun _ => rfl
      exact ⟨_, rfl, releaseSound_ite (fun _ => State.cancelCleared_sound
        (s := { s.taken (.clearNoticeRelease c) with
          release := { s.release with window := s.release.window.map (markCleared c) } }) hmarked c) fun _ => h⟩
    | _ => cases hi

theorem State.blocksAtReset.release_eq (h : s.blocksAtReset) : s.release = ReleaseUnit.reset := by
  obtain ⟨-, -, -, -, -, -, hrelease, -⟩ := h
  exact hrelease

/-- R172: the record taken into use leaves the unit at its reset values but for the held copy. -/
theorem State.endRead_release (s : State) (bytes : List Byte) :
    (s.endRead bytes).release = { s.release with held := (s.endRead bytes).release.held } := by
  have htaken (role : Role) (cfg : StationConfig) : (s.takeRecord role cfg).release =
      { s.release with held := (s.takeRecord role cfg).release.held } := by
    cases role <;> simp [State.takeRecord, State.beginAnnouncing, State.loadRoleBlocks, State.loadStatusPort,
      State.loadDropBlocks, State.loadGaugeUnit, State.loadLineBus, State.loadTracker]
  unfold State.endRead
  split
  case h_1 =>
    unfold State.judgeRecord
    split
    · exact htaken _ _
    · rfl
  all_goals rfl

theorem exec_releaseSound (i : Instr) (hs : s.releaseSound) : ∃ t, exec i s = .next t ∧ t.releaseSound := by
  obtain ⟨hidle, hrange⟩ := State.releaseSound_iff.mp hs
  obtain ⟨t, ht, hidle'⟩ := exec_idleBeforeLoad i hidle
  refine ⟨t, ht, State.releaseSound_iff.mpr ⟨hidle', ?_⟩⟩
  by_cases hreset : i = .reset
  · subst hreset
    cases ht
    exact .reset _
  · by_cases hread : ∃ bytes, i = .recordReadComplete bytes
    · obtain ⟨bytes, rfl⟩ := hread
      cases ht
      split
      case isTrue hm =>
        have hreset := (hidle (.inl hm)).release_eq
        exact (ReleaseUnit.Sound.reset _).of_same (by rw [s.endRead_release bytes, hreset])
      case isFalse => exact hrange
    · obtain ⟨u, hu, hsound⟩ := exec_releaseRanges hreset (not_exists.mp hread) hrange
      cases hu.symm.trans ht
      rwa [State.cfg_of_record_eq (exec_record hreset (not_exists.mp hread) ht)]

theorem State.releaseSound.tick (hs : s.releaseSound) : s.tick.releaseSound := by
  obtain ⟨hidle, hrange⟩ := State.releaseSound_iff.mp hs
  exact State.releaseSound_iff.mpr ⟨fun hm => (hidle hm).tick, hrange.tick⟩

/-- Settles O55: the flap moves with no window open only, a pulse starts at a width of at most W, and REL and its timer
start and end together. -/
theorem releaseUnitStaysSound : Obligations.ReleaseUnitStaysSound := by
  refine keptByEveryStep_of_exec_of_tick (fun s p hs => hs) (fun i s t hs hexec => ?_)
    fun s => State.releaseSound.tick
  obtain ⟨u, hu, hsound⟩ := exec_releaseSound i hs
  cases hexec.symm.trans hu
  exact hsound

end Sys2Proof.Machine
end

section
namespace Sys2Proof.Machine

variable {s t : State} {r : ReleaseRecord} {w : ConfirmationWindow}

/-! ### Hold and clear notices (R149, R150) -/

theorem exec_holdNoticeReleaseUnit_released (h : s.dropActive) : exec (.holdNoticeReleaseUnit false) s
    = .next { s.taken (.holdNoticeReleaseUnit false) with release := { s.release with held := false } } :=
  congrArg Host.Outcome.next (if_pos h)

theorem exec_holdNoticeReleaseUnit_idle (h : s.dropActive) (hr : s.release.delayed = none) :
    exec (.holdNoticeReleaseUnit true) s
      = .next { s.taken (.holdNoticeReleaseUnit true) with release := { s.release with held := true } } :=
  congrArg Host.Outcome.next ((if_pos h).trans (by simp [hr]))

/-- R149: an assertion cancels the record in DELAY. -/
theorem exec_holdNoticeReleaseUnit_cancels (h : s.dropActive) (hr : s.release.delayed = some r) :
    exec (.holdNoticeReleaseUnit true) s = .next (State.giveUp r.slot r.cradle .hold
      { s.taken (.holdNoticeReleaseUnit true) with
        release := { s.release with held := true, delayed := none, delayTimer := none } }) :=
  congrArg Host.Outcome.next ((if_pos h).trans (by simp [hr, State.dropDelay]))

/-- R150: the window's record is marked if it is one for the cradle. -/
def State.markWindow (c : CradleId) (s : State) : State :=
  { s with release := { s.release with window := s.release.window.map (markCleared c) } }

theorem exec_clearNoticeRelease (h : s.dropActive) (c : CradleId) :
    exec (.clearNoticeRelease c) s = .next (((s.taken (.clearNoticeRelease c)).markWindow c).cancelCleared c) :=
  congrArg Host.Outcome.next (if_pos h)

theorem State.cancelCleared_other {c : CradleId} (h : ∀ r, s.release.delayed = some r → r.cradle ≠ c) :
    s.cancelCleared c = s := by
  unfold State.cancelCleared
  split
  · rfl
  · next r hr => exact if_neg (h r hr)

theorem State.cancelCleared_own (hr : s.release.delayed = some r) :
    s.cancelCleared r.cradle = s.dropDelay.giveUp r.slot r.cradle .void := by
  simp [State.cancelCleared, hr]

/-- Settles O54: the held copy, the cancelled record in DELAY, the mark on the window's record. -/
theorem holdAndClearReachReleases : Obligations.HoldAndClearReachReleases := by
  intro s hrole hmode
  have hactive : s.dropActive := ⟨hrole, hmode⟩
  refine ⟨exec_holdNoticeReleaseUnit_released hactive, exec_holdNoticeReleaseUnit_idle hactive,
    fun r => exec_holdNoticeReleaseUnit_cancels hactive, ?_⟩
  rintro c marked rfl
  rw [exec_clearNoticeRelease hactive]
  refine ⟨fun hother => ?_, ?_⟩
  · rw [State.cancelCleared_other (s := (s.taken _).markWindow c) hother]
    rfl
  · rintro r hr rfl
    rw [State.cancelCleared_own (s := (s.taken _).markWindow _) hr]
    rfl

/-! ### Gate edges (R147) -/

theorem State.judgeEdge_closed (hw : s.release.window = none) : s.judgeEdge = s.stray s.release.flap := by
  simp only [State.judgeEdge, hw]

theorem State.judgeEdge_first (hw : s.release.window = some w) (he : w.edges = 0) (hr : w.record = some r) :
    s.judgeEdge = if r.cleared = true then s.stray w.cradle else s.placement w := by
  simp only [State.judgeEdge, hw, he, hr, if_pos]

theorem State.judgeEdge_again (hw : s.release.window = some w) (he : 1 ≤ w.edges) : s.judgeEdge = s.double w := by
  simp only [State.judgeEdge, hw]
  exact if_neg (Nat.ne_of_gt he)

theorem exec_filteredGateEdge (h : s.dropLoaded) (hedge : s.tracker.gateFilter.admitsEdge = true) :
    exec .filteredGateEdge s
      = .next (if s.offersAccepted then (s.setGateFilter .held).judgeEdge else s.setGateFilter .held) :=
  congrArg Host.Outcome.next (if_pos ⟨h, hedge⟩)

/-- R5, R152: a station past loading that is not HALTED judges its edges. -/
theorem State.offersAccepted_iff (h : s.loaded) : s.offersAccepted ↔ s.loader.mode ≠ .halted := by
  cases hm : s.loader.mode <;> simp_all [State.loaded, State.offersAccepted]

/-- Settles O53: the rows of R147 in their order. -/
theorem gateEdgesAreJudged : Obligations.GateEdgesAreJudged := by
  rintro s base hdrop hedge rfl
  have hjudges := State.offersAccepted_iff hdrop.2
  rw [exec_filteredGateEdge hdrop hedge]
  refine ⟨fun hm => by rw [if_neg fun ho => hjudges.mp ho hm]; rfl, fun hm => ?_⟩
  rw [if_pos (hjudges.mpr hm)]
  refine ⟨fun hw => ?_, fun w r hw he hr => ?_, fun w hw he => ?_⟩
  · rw [State.judgeEdge_closed (s := s.setGateFilter .held) hw]
    rfl
  · rw [State.judgeEdge_first (s := s.setGateFilter .held) hw he hr]
    refine ⟨fun hc => ?_, fun hc => ?_⟩
    · rw [if_neg (by simp [hc])]
      rfl
    · rw [if_pos hc]
      rfl
  · rw [State.judgeEdge_again (s := s.setGateFilter .held) hw he]
    rfl

/-! ### The close of a window (R146) -/

/-- R146: what the miss of a window's record hands over. -/
def missNotices : Option ReleaseRecord → List Instr
  | none => []
  | some q => if q.cleared = true then [.miss q.cradle] else [.miss q.cradle, .yieldRequest q.slot .miss]

/-- R146: the misses counter after the close; a cleared record is not counted. -/
def missesAfter (record : Option ReleaseRecord) (misses : Word16) : Word16 :=
  match record with
  | none => misses
  | some q => if q.cleared = true then misses else countUp misses

/-- A window's record ends by a miss: what that changes outside the Release Unit. -/
structure State.EndsByMiss (record : Option ReleaseRecord) (s t : State) : Prop where
  handed : t.handed = s.handed ++ missNotices record
  misses : t.counter .misses = missesAfter record (s.counter .misses)
  others : ∀ n, n ≠ .misses → t.counter n = s.counter n
  flags : t.status.flags = s.status.flags
  frame : t = { s with release := t.release, status := t.status, handed := t.handed }

/-- The Release Unit itself is free. -/
theorem State.EndsByMiss.with_release {record : Option ReleaseRecord} (h : s.EndsByMiss record t) (u : ReleaseUnit) :
    s.EndsByMiss record { t with release := u } where
  handed := h.handed
  misses := h.misses
  others := h.others
  flags := h.flags
  frame := congrArg (fun x : State => { x with release := u }) h.frame

theorem State.closeWindow_endsByMiss (s : State) (w : ConfirmationWindow) :
    s.EndsByMiss w.record (s.closeWindow w) := by
  unfold State.closeWindow
  cases w.record with
  | none => exact ⟨(List.append_nil _).symm, rfl, fun _ _ => rfl, rfl, rfl⟩
  | some q =>
    dsimp only
    unfold State.missRecord
    cases hq : q.cleared with
    | true => exact ⟨by simp [missNotices, hq], by simp [missesAfter, hq]; rfl, fun _ _ => rfl, rfl, rfl⟩
    | false => exact ⟨by simp [missNotices, hq, State.giveUp], by simp [missesAfter, hq]; rfl,
        fun n hn => State.bump_counter_other _ hn, rfl, rfl⟩

theorem State.closeOpenWindow_endsByMiss (s : State) :
    s.EndsByMiss (s.release.window.bind fun w => w.record) s.closeOpenWindow := by
  unfold State.closeOpenWindow
  cases s.release.window with
  | none => exact ⟨(List.append_nil _).symm, rfl, fun _ _ => rfl, rfl, rfl⟩
  | some w => exact s.closeWindow_endsByMiss w

theorem State.judgeFlap_eq : s.judgeFlap = { s with release := s.judgeFlap.release } := by
  cases hr : s.release.delayed with
  | none => rw [State.judgeFlap_of_none hr]
  | some r => rw [State.judgeFlap_of_some hr]

/-! ### Timers (R143, R145, R146) -/

theorem exec_delayExpiry (h : s.dropLoaded) (hr : s.release.delayed = some r) : exec .delayExpiry s = .next
    (if s.release.settledAt r.cradle = true then s.startPulse r else s.dropDelay.skipRelease r.slot r.cradle) :=
  congrArg Host.Outcome.next ((if_pos h).trans (by rw [hr]))

theorem exec_confirmationWindowExpiry (h : s.dropLoaded) (hw : s.release.window = some w) :
    exec .confirmationWindowExpiry s = .next (s.closeWindow w).judgeFlap :=
  congrArg Host.Outcome.next ((if_pos h).trans (by rw [hw]))

/-- Settles O52: the delay expiry by the state of the flap, the window's close with its judgment of the flap. -/
theorem pulseWindowAndFlapTimers : Obligations.PulseWindowAndFlapTimers := by
  intro s hdrop
  refine ⟨congrArg Host.Outcome.next (if_pos hdrop), fun hrel => congrArg Host.Outcome.next (if_pos ⟨hdrop, hrel⟩),
    fun r hr => ?_, fun w hw => ?_⟩
  · rw [exec_delayExpiry hdrop hr]
    refine ⟨fun hflap hsettle => ?_, fun hunsettled => ?_⟩
    · rw [if_pos (ReleaseUnit.settledAt_iff.mpr ⟨hflap, hsettle⟩), State.startPulse_eq hr hflap]
      obtain ⟨hhanded, hmisses, hothers, hflags, hframe⟩ := s.closeOpenWindow_endsByMiss.with_release _
      exact ⟨_, rfl, rfl, hhanded, hmisses, hothers, hflags, hframe⟩
    · have hsettled : ¬ s.release.settledAt r.cradle = true :=
        fun h => (not_and_or.mpr hunsettled) (ReleaseUnit.settledAt_iff.mp h)
      rw [if_neg hsettled]
      rfl
  · have hcfg : (s.closeWindow w).cfg = s.cfg := State.cfg_of_record_eq (by simp)
    have hended : s.EndsByMiss w.record (s.closeWindow w).judgeFlap := by
      rw [State.judgeFlap_eq]
      exact (s.closeWindow_endsByMiss w).with_release _
    obtain ⟨hhanded, hmisses, hothers, hflags, hframe⟩ := hended
    refine ⟨_, exec_confirmationWindowExpiry hdrop hw, fun hr => ?_, fun r hr => ?_, hhanded, hmisses, hothers, hflags,
      hframe⟩
    · rw [State.judgeFlap_of_none (by simpa using hr), State.closeWindow_release]
    · rw [State.judgeFlap_of_closed (r := r) (by simpa using hr) (by simp), hcfg, State.closeWindow_release]

end Sys2Proof.Machine
end

section
namespace Sys2Proof.Machine

variable {s t : State} {slot : Slot} {c : CradleId} {period : Ticks}

/-! ### The carrier step (R141, R142) -/

theorem State.bump_counter (s : State) (m n : CounterName) :
    (s.bump m).counter n = if n = m then countUp (s.counter n) else s.counter n := by
  split
  case isTrue hn => rw [hn, State.bump_counter_self]
  case isFalse hn => exact State.bump_counter_other _ hn

@[simp] theorem State.taken_counter (i : Instr) (n : CounterName) : (s.taken i).counter n = s.counter n := rfl

theorem State.cutPulse_counter (n : CounterName) : s.cutPulse.counter n =
    if s.release.rel = true ∧ n = .shortReleases then countUp (s.counter n) else s.counter n := by
  unfold State.cutPulse
  split
  case isTrue hrel =>
    simp only [hrel, true_and]
    exact s.endPulse.bump_counter .shortReleases n
  case isFalse hoff => rw [if_neg fun h => hoff h.1]

theorem State.cutPulse_flags : s.cutPulse.status.flags = s.status.flags := by
  unfold State.cutPulse
  split <;> rfl

/-- R141, R142: what a record in DELAY leaves behind at a carrier step. -/
def overtakenNotices (slip : Bool) : Option ReleaseRecord → List Instr
  | none => []
  | some r => [.miss r.cradle, .yieldRequest r.slot (if slip = true then .void else .skip)]

theorem State.dropOvertaken_handed (slip : Bool) :
    (s.dropOvertaken slip).handed = s.handed ++ overtakenNotices slip s.release.delayed := by
  cases hr : s.release.delayed with
  | none => rw [State.dropOvertaken_none hr, overtakenNotices, List.append_nil]
  | some r =>
    rw [State.dropOvertaken_some hr]
    cases slip <;> rfl

theorem State.dropOvertaken_counter (slip : Bool) (n : CounterName) : (s.dropOvertaken slip).counter n =
    if (s.release.delayed ≠ none ∧ slip = false) ∧ n = .skips then countUp (s.counter n) else s.counter n := by
  cases hr : s.release.delayed with
  | none => simp [State.dropOvertaken_none hr]
  | some r =>
    rw [State.dropOvertaken_some hr]
    cases slip with
    | false =>
      simp only [ne_eq, reduceCtorEq, not_false_eq_true, and_self, true_and]
      exact (s.dropDelay.giveUp r.slot r.cradle .skip).bump_counter .skips n
    | true => exact (if_neg (by simp)).symm

theorem State.dropOvertaken_flags (slip : Bool) : (s.dropOvertaken slip).status.flags = s.status.flags := by
  cases hr : s.release.delayed with
  | none => rw [State.dropOvertaken_none hr]
  | some r =>
    rw [State.dropOvertaken_some hr]
    cases slip <;> rfl

theorem State.carrierStep_release (slip : Bool) : (s.carrierStep slip).release = { s.release with
    rel := false
    pulseTimer := if s.release.rel = true then none else s.release.pulseTimer
    window := if s.release.rel = true then s.release.window.map (windowPhase .window) else s.release.window
    delayed := none
    delayTimer := if s.release.delayed = none then s.release.delayTimer else none } := by
  simp [State.carrierStep]

theorem State.carrierStep_handed (slip : Bool) :
    (s.carrierStep slip).handed = s.handed ++ overtakenNotices slip s.release.delayed := by
  simp [State.carrierStep, State.dropOvertaken_handed]

theorem State.carrierStep_counter (slip : Bool) (n : CounterName) : (s.carrierStep slip).counter n =
    if s.release.rel = true ∧ n = .shortReleases ∨ (s.release.delayed ≠ none ∧ slip = false) ∧ n = .skips then
      countUp (s.counter n) else s.counter n := by
  rw [State.carrierStep, State.dropOvertaken_counter, State.cutPulse_counter, State.cutPulse_release]
  by_cases hskips : n = .skips
  · simp [hskips]
  · simp [hskips]

theorem State.carrierStep_flags (slip : Bool) : (s.carrierStep slip).status.flags = s.status.flags :=
  (State.dropOvertaken_flags slip).trans State.cutPulse_flags

theorem State.carrierStep_eq (slip : Bool) : s.carrierStep slip = { s with
    release := (s.carrierStep slip).release, status := (s.carrierStep slip).status
    handed := (s.carrierStep slip).handed } := by
  obtain ⟨hpins, hloader, htracker, hbus, hgauge, htable, hengine, hcradles, htie, hnow, hpending⟩ :=
    s.carrierStep_frame slip
  rw [← hpins, ← hloader, ← htracker, ← hbus, ← hgauge, ← htable, ← hengine, ← hcradles, ← htie, ← hnow, ← hpending]

/-- The carrier step of an arrival, with the pulse it is noted for (log 18). -/
def State.stepFor (a : Arrival) (s : State) : State :=
  (s.carrierStep a.slip).setLastStep (if a.slip = true then none else some a.slotHere)

theorem exec_releaseCarrierStep (h : s.dropActive) {a : Arrival}
    (hnew : a.slip = true ∨ s.release.lastStep ≠ some a.slotHere) :
    exec (.releaseCarrierStep a) s = .next ((s.taken (.releaseCarrierStep a)).stepFor a) := by
  refine congrArg Host.Outcome.next ((if_pos h).trans ?_)
  cases hslip : a.slip with
  | true => simp [State.stepFor, hslip]
  | false =>
    rw [if_neg (by simp), State.stepFor, hslip]
    exact if_neg (hnew.resolve_left (by simp [hslip]))

theorem exec_releaseCarrierStep_done (h : s.dropActive) {a : Arrival} (hslip : a.slip = false)
    (hdone : s.release.lastStep = some a.slotHere) :
    exec (.releaseCarrierStep a) s = .next (s.taken (.releaseCarrierStep a)) := by
  refine congrArg Host.Outcome.next ((if_pos h).trans ((if_neg (by simp [hslip])).trans (if_pos hdone)))

/-! ### Hand-overs (R140, R149, R150) -/

theorem exec_releaseHandover (h : s.dropActive) : exec (.releaseHandover slot c period) s
    = .next ((s.taken (.releaseHandover slot c period)).takeHandover slot c period) :=
  congrArg Host.Outcome.next (if_pos h)

/-- R152: in HALTED a hand-over ends with MISS (log 13). -/
theorem exec_releaseHandover_halted (hrole : s.loader.role = some .drop) (hm : s.loader.mode = .halted) :
    exec (.releaseHandover slot c period) s
      = .next ((s.taken (.releaseHandover slot c period)).hand (.miss c)) := by
  refine congrArg Host.Outcome.next ((if_neg ?_).trans (if_pos ⟨⟨hrole, .inr (.inr hm)⟩, hm⟩))
  simp [State.dropActive, hm]

/-- The carrier step finds nothing to do, or is already taken. -/
abbrev State.stepIdle (slot : Slot) (s : State) : Prop :=
  (s.release.rel = false ∧ s.release.delayed = none) ∨ s.release.lastStep = some slot

theorem State.stepOnce_idle (h : s.stepIdle slot) : s.stepOnce slot = s.setLastStep (some slot) := by
  unfold State.stepOnce
  split
  case isTrue hdone => rw [State.setLastStep, ← hdone]
  case isFalse hnew =>
    obtain ⟨hrel, hdelayed⟩ := h.resolve_right hnew
    have hcut : s.cutPulse = s := if_neg (by simp [hrel])
    rw [State.carrierStep, hcut, State.dropOvertaken_none hdelayed]

/-- R140: held is asked first (log 17), then a void pending, then the width. -/
theorem State.takeHandover_idle (h : s.stepIdle slot) (c : CradleId) (period : Ticks) :
    s.takeHandover slot c period =
      if s.release.held = true then (s.setLastStep (some slot)).giveUp slot c .hold
      else if s.voidPending c = true then (s.setLastStep (some slot)).giveUp slot c .void
      else (s.setLastStep (some slot)).makeRecord slot c period := by
  rw [State.takeHandover, State.stepOnce_idle h]
  cases c <;> rfl

theorem State.voidPending_iff : s.voidPending c = true ↔ (s.cradle c).state = .sealed ∧ (s.cradle c).pending = .void :=
  decide_eq_true_iff

theorem exec_releaseHandover_held (h : s.dropActive) (hidle : s.stepIdle slot) (hheld : s.release.held = true) :
    exec (.releaseHandover slot c period) s
      = .next (((s.taken (.releaseHandover slot c period)).setLastStep (some slot)).giveUp slot c .hold) := by
  rw [exec_releaseHandover h, State.takeHandover_idle (s := s.taken _) hidle]
  exact congrArg Host.Outcome.next (if_pos hheld)

theorem exec_releaseHandover_void (h : s.dropActive) (hidle : s.stepIdle slot) (hheld : s.release.held = false)
    (hvoid : s.voidPending c = true) : exec (.releaseHandover slot c period) s
      = .next (((s.taken (.releaseHandover slot c period)).setLastStep (some slot)).giveUp slot c .void) := by
  rw [exec_releaseHandover h, State.takeHandover_idle (s := s.taken _) hidle, if_neg (by simp [hheld])]
  exact congrArg Host.Outcome.next (if_pos hvoid)

theorem exec_releaseHandover_clear (h : s.dropActive) (hidle : s.stepIdle slot) (hheld : s.release.held = false)
    (hclear : ¬ s.voidPending c = true) : exec (.releaseHandover slot c period) s
      = .next (((s.taken (.releaseHandover slot c period)).setLastStep (some slot)).makeRecord slot c period) := by
  rw [exec_releaseHandover h, State.takeHandover_idle (s := s.taken _) hidle, if_neg (by simp [hheld])]
  exact congrArg Host.Outcome.next (if_neg hclear)

/-! ### A hand-over before its pulse's arrival (R141) -/

theorem erase_append_of_not_mem {i : Instr} {l : List Instr} (hi : i ∉ l) (k : List Instr) :
    (k ++ l).erase i = k.erase i ++ l := by
  rw [List.erase_append]
  split
  case isTrue => rfl
  case isFalse hk => rw [List.erase_of_not_mem hi, List.erase_of_not_mem hk]

theorem State.giveUp_taken {i : Instr} {reason : YieldReason}
    (hi : i ∉ ([.miss c, .yieldRequest slot reason] : List Instr)) :
    (s.taken i).giveUp slot c reason = (s.giveUp slot c reason).taken i := by
  simp only [State.giveUp, State.handAll, State.taken, erase_append_of_not_mem hi]

theorem State.cutPulse_taken (i : Instr) : (s.taken i).cutPulse = s.cutPulse.taken i := by
  rw [State.cutPulse, State.cutPulse, apply_ite (State.taken i)]
  rfl

theorem State.dropOvertaken_taken (slip : Bool) {i : Instr} (hi : i ∉ overtakenNotices slip s.release.delayed) :
    (s.taken i).dropOvertaken slip = (s.dropOvertaken slip).taken i := by
  cases hr : s.release.delayed with
  | none => rw [State.dropOvertaken_none hr, State.dropOvertaken_none (s := s.taken i) hr]
  | some r =>
    rw [hr] at hi
    rw [State.dropOvertaken_some hr, State.dropOvertaken_some (s := s.taken i) hr]
    cases slip with
    | false => exact congrArg (State.bump .skips) (State.giveUp_taken (s := s.dropDelay) hi)
    | true => exact State.giveUp_taken (s := s.dropDelay) hi

/-- Taking a hand-over that the step does not hand out itself commutes with the step. -/
theorem State.carrierStep_taken (slip : Bool) {i : Instr} (hi : i ∉ overtakenNotices slip s.release.delayed) :
    (s.taken i).carrierStep slip = (s.carrierStep slip).taken i := by
  rw [State.carrierStep, State.cutPulse_taken, State.dropOvertaken_taken slip (by simpa using hi), State.carrierStep]

/-- The step taken first, at its own arrival, then the hand-over: the same as the hand-over alone. -/
theorem State.takeHandover_after_step (hnew : s.release.lastStep ≠ some slot) (c : CradleId) (period : Ticks) :
    (s.taken (.releaseHandover slot c period)).takeHandover slot c period
      = (((s.carrierStep false).setLastStep (some slot)).taken (.releaseHandover slot c period)).takeHandover
        slot c period := by
  have hfirst : (s.taken (.releaseHandover slot c period)).stepOnce slot
      = ((s.carrierStep false).setLastStep (some slot)).taken (.releaseHandover slot c period) := by
    refine (if_neg hnew).trans ?_
    rw [State.carrierStep_taken]
    · rfl
    · cases s.release.delayed <;> simp [overtakenNotices]
  have hthen : (((s.carrierStep false).setLastStep (some slot)).taken (.releaseHandover slot c period)).stepOnce slot
      = ((s.carrierStep false).setLastStep (some slot)).taken (.releaseHandover slot c period) := if_pos rfl
  rw [State.takeHandover, State.takeHandover, hfirst, hthen]

/-- The step taken at the arrival, which stands first among those handed over. -/
theorem exec_releaseCarrierStep_ahead (h : s.dropActive) (hnew : s.release.lastStep ≠ some slot) :
    exec (.releaseCarrierStep ⟨slot, period, false⟩)
        { s with handed := .releaseCarrierStep ⟨slot, period, false⟩ :: s.handed }
      = .next ((s.carrierStep false).setLastStep (some slot)) := by
  have hback : State.taken (.releaseCarrierStep ⟨slot, period, false⟩)
      { s with handed := .releaseCarrierStep ⟨slot, period, false⟩ :: s.handed } = s := by
    simp [State.taken]
  rw [exec_releaseCarrierStep (s := { s with handed := _ :: s.handed }) h (.inr hnew), hback]
  rfl

/-- R141: at whichever of the two comes first, the step is taken once. -/
theorem exec_releaseHandover_after_step (h : s.dropActive) (hnew : s.release.lastStep ≠ some slot) :
    exec (.releaseHandover slot c period) s
      = exec (.releaseHandover slot c period) ((s.carrierStep false).setLastStep (some slot)) := by
  have hactive : ((s.carrierStep false).setLastStep (some slot)).dropActive := by simpa [State.dropActive] using h
  rw [exec_releaseHandover h, exec_releaseHandover hactive, State.takeHandover_after_step hnew]

/-- Settles O51: the rows of a hand-over, the step it brings forward, and the carrier step part by part. -/
theorem handoverAndCarrierStep : Obligations.HandoverAndCarrierStep := by
  refine ⟨?_, fun s a hrole hm => ⟨exec_releaseCarrierStep_done ⟨hrole, hm⟩, fun hnew => ?_⟩⟩
  · rintro s base slot c period delay hrole rfl rfl
    refine ⟨exec_releaseHandover_halted hrole, fun hm hidle => ?_, fun hm hnew => ?_⟩
    · have hactive : s.dropActive := ⟨hrole, hm⟩
      refine ⟨exec_releaseHandover_held hactive hidle, fun hheld hstate hpending =>
        exec_releaseHandover_void hactive hidle hheld (State.voidPending_iff.mpr ⟨hstate, hpending⟩),
        fun hheld hclear => ?_⟩
      rw [exec_releaseHandover_clear hactive hidle hheld
        fun hvoid => not_and_or.mpr hclear (State.voidPending_iff.mp hvoid)]
      exact ⟨fun hfits => congrArg Host.Outcome.next (State.makeRecord_made (s := (s.taken _).setLastStep _)
          hfits slot c),
        fun hshort => congrArg Host.Outcome.next (State.makeRecord_skipped (s := (s.taken _).setLastStep _)
          (Nat.not_le.mpr hshort) slot c)⟩
    · refine ⟨_, exec_releaseCarrierStep_ahead ⟨hrole, hm⟩ hnew, ?_, ?_, rfl,
        exec_releaseHandover_after_step ⟨hrole, hm⟩ hnew⟩ <;>
      simp [State.carrierStep_release]
  · refine ⟨_, exec_releaseCarrierStep ⟨hrole, hm⟩ hnew, ?_, ?_, ?_, ?_, fun n hshort hskips => ?_, ?_, ?_⟩
    · rw [State.stepFor, State.setLastStep_release, State.carrierStep_release]
      rfl
    · rw [State.stepFor, State.setLastStep_handed, State.carrierStep_handed]
      rfl
    · exact (State.carrierStep_counter (s := s.taken _) a.slip .shortReleases).trans (by simp)
    · exact (State.carrierStep_counter (s := s.taken _) a.slip .skips).trans (by simp)
    · exact (State.carrierStep_counter (s := s.taken _) a.slip n).trans (by simp [hshort, hskips])
    · exact State.carrierStep_flags (s := s.taken _) a.slip
    · exact congrArg (State.setLastStep _) (State.carrierStep_eq (s := s.taken _) a.slip)

end Sys2Proof.Machine
end

section
/-! SUPPORT. Proofs of the statements on tying: the start of a tie, the handshake by phase, the record on TDAT, the ends
of a tie. -/

namespace Sys2Proof.Machine

variable {s : State} {c : CradleId}

/-! ### The start of a tie (R133, R155, R165) -/

theorem State.readyHead_eq_none_iff : s.readyHead = none
    ↔ ∀ c, s.cradles.tieQueue.head? = some c → (s.cradle c).state ≠ .ready := by
  simp only [Option.eq_none_iff_forall_ne_some, ne_eq, State.readyHead_eq_some_iff, not_and]

theorem State.judgeTieStart_rests (h : s.tie.phase ≠ .idle ∨ s.tie.held = true ∨ s.readyHead = none) :
    s.judgeTieStart = s := by
  rw [State.judgeTieStart]
  split
  case isFalse => rfl
  case isTrue hstarts =>
    obtain ⟨hidle, -, hheld⟩ := hstarts
    have hhead : s.readyHead = none := by simpa [hidle, hheld] using h
    rw [hhead]

/-- R133: the contents of the TIE for a bound cradle with a bunch number. -/
theorem tieRecordOf_bound {k : Cradle} {b : Binding} {n : Word16} (hb : k.binding = some b) (hn : k.bunch = some n) :
    tieRecordOf c k = ⟨c, b.cls, b.lot, k.placed, n, k.short, k.uncertain⟩ := by
  simp only [tieRecordOf, hb, hn, Option.getD_some]

/-- R155: the head becomes TYING, and its TIE is sent, after the abort step if the mark is set. -/
theorem State.judgeTieStart_starts (h : s.dropActive) (hidle : s.tie.phase = .idle) (hheld : s.tie.held = false)
    (hhead : s.readyHead = some c) {r : TieRecord} (hr : tieRecordOf c (s.cradle c) = r) :
    s.judgeTieStart = State.setCradle c { s.cradle c with state := .tying } { s with
      tie := { s.tie with
        phase := .sending, abortStep := s.tie.abortPending, shift := some 4, held := false, current := some r } } := by
  rw [State.judgeTieStart, if_pos ⟨hidle, h, hheld⟩, hhead, ← hheld, ← hr]
  cases c <;> rfl

theorem exec_queueNotice (s : State) : exec .queueNotice s = .next (s.taken .queueNotice).judgeTieStart := rfl

theorem exec_holdNoticeTiePort_held (h : s.dropActive) : exec (.holdNoticeTiePort true) s
    = .next { s.taken (.holdNoticeTiePort true) with tie := { s.tie with held := true } } :=
  congrArg Host.Outcome.next (if_pos h)

theorem exec_holdNoticeTiePort_released (h : s.dropActive) : exec (.holdNoticeTiePort false) s
    = .next (State.judgeTieStart
      { s.taken (.holdNoticeTiePort false) with tie := { s.tie with held := false } }) :=
  congrArg Host.Outcome.next (if_pos h)

/-! ### The handshake by phase (R156, R157, R158, R164) -/

theorem exec_recordShifted_abort (h : s.dropLoaded) (hp : s.tie.phase = .sending) (ha : s.tie.abortStep = true) :
    exec .recordShifted s = .next (if s.tie.earlyAck = true then s.endAbort else s.awaitAck) :=
  congrArg Host.Outcome.next ((if_pos ⟨h, hp⟩).trans (if_pos ha))

theorem exec_recordShifted_tie (h : s.dropLoaded) (hp : s.tie.phase = .sending) (ha : s.tie.abortStep = false) :
    exec .recordShifted s = .next (if s.tie.earlyAck = true then s.recordSent.clearEarly.beginTying
      else s.recordSent.awaitAck) :=
  congrArg Host.Outcome.next ((if_pos ⟨h, hp⟩).trans (if_neg (by simp [ha])))

theorem exec_tackEdge_sending (h : s.dropLoaded) (hp : s.tie.phase = .sending) :
    exec .tackEdge s = .next { s with tie := { s.tie with earlyAck := true } } :=
  congrArg Host.Outcome.next ((if_pos h).trans (by rw [hp]))

theorem exec_tackEdge_awaitAck (h : s.dropLoaded) (hp : s.tie.phase = .awaitAck) :
    exec .tackEdge s = .next (if s.tie.abortStep = true then s.endAbort else s.beginTying) :=
  congrArg Host.Outcome.next ((if_pos h).trans (by rw [hp]))

/-- R164: a TACK edge of no phase that waits for one. -/
theorem exec_tackEdge_ignored (h : s.dropLoaded)
    (hp : s.tie.phase = .idle ∨ s.tie.phase = .tying ∨ s.tie.phase = .reading) : exec .tackEdge s = .next s := by
  refine congrArg Host.Outcome.next ((if_pos h).trans ?_)
  rcases hp with hp | hp | hp <;> rw [hp]

theorem exec_tdoneEdge_reads (h : s.dropLoaded)
    (hp : (s.tie.phase = .awaitAck ∧ s.tie.abortStep = false) ∨ s.tie.phase = .tying) :
    exec .tdoneEdge s = .next s.beginReading := by
  refine congrArg Host.Outcome.next ((if_pos h).trans ?_)
  rcases hp with ⟨hp, ha⟩ | hp <;> rw [hp]
  exact if_neg (by simp [ha])

/-- R164: a TDONE edge with no TIE to complete is late. -/
theorem exec_tdoneEdge_late (h : s.dropLoaded)
    (hp : (s.tie.phase = .awaitAck ∧ s.tie.abortStep = true) ∨ s.tie.phase = .idle ∨ s.tie.phase = .sending
      ∨ s.tie.phase = .reading) : exec .tdoneEdge s = .next (s.bump .lateDone) := by
  refine congrArg Host.Outcome.next ((if_pos h).trans ?_)
  rcases hp with ⟨hp, ha⟩ | hp | hp | hp <;> rw [hp]
  exact if_pos ha

theorem exec_ackLimitExpiry (h : s.dropLoaded) (hp : s.tie.phase = .awaitAck) :
    exec .ackLimitExpiry s = .next (if s.tie.abortStep = true then s.endAbort else s.endTie .noAck) :=
  congrArg Host.Outcome.next (if_pos ⟨h, hp⟩)

/-! ### The record on TDAT (R156, R185) -/

theorem toNat_append_eq_add {m n : Nat} (x : BitVec m) (y : BitVec n) :
    (x ++ y).toNat = x.toNat * 2 ^ n + y.toNat := by
  rw [BitVec.toNat_append, ← Nat.shiftLeft_add_eq_or_of_lt y.isLt, Nat.shiftLeft_eq]

theorem bitOf_eq_toNat (b : Bool) : bitOf b = b.toNat := by cases b <;> rfl

theorem cradleCode_eq_toNat (c : CradleId) : cradleCode c = (decide (c = .b)).toNat := by cases c <;> rfl

/-- R185: the sum of the weighted fields is the fields side by side. -/
theorem tieCommandBits_eq_tieBits (abort : Bool) (r : TieRecord) : tieCommandBits abort r = tieBits abort r := by
  refine BitVec.eq_of_toNat_eq ?_
  have hnumber : (tieBits abort r).toNat = bitOf abort * 2 ^ 39 + cradleCode r.cradle * 2 ^ 38 + bitOf r.short * 2 ^ 37
      + bitOf r.uncertain * 2 ^ 36 + r.cls % 16 * 2 ^ 32 + r.lot % 16 * 2 ^ 28 + r.count % 64 * 2 ^ 16
      + r.bunch.toNat := by
    simp only [tieBits, toNat_append_eq_add, BitVec.toNat_ofBool, BitVec.toNat_ofNat, bitOf_eq_toNat,
      cradleCode_eq_toNat]
    omega
  rw [tieCommandBits, ← hnumber, BitVec.toNat_ofNat, Nat.mod_eq_of_lt (tieBits abort r).isLt]

theorem State.tieRecordOut_tie (h : s.dropStarted) (hp : s.tie.phase = .sending) (ha : s.tie.abortStep = false)
    {r : TieRecord} (hr : s.tie.current = some r) : s.tieRecordOut = some (tieBits false r) := by
  simp [State.tieRecordOut, h, hp, ha, hr, tieCommandBits_eq_tieBits]

theorem State.tieRecordOut_abort (h : s.dropStarted) (hp : s.tie.phase = .sending) (ha : s.tie.abortStep = true) :
    s.tieRecordOut = some (tieBits true (s.tie.lastRecord.getD blankTieRecord)) := by
  simp [State.tieRecordOut, h, hp, ha, tieCommandBits_eq_tieBits]

theorem State.tieDataOut_released (h : s.tieRecordOut = none) (n : Nat) : s.tieDataOut n = none := by
  rw [State.tieDataOut, h, Option.map_none]

theorem State.tieDataOut_bit {bits : BitVec 40} (h : s.tieRecordOut = some bits) {n : Nat} (hn : n < 40) :
    s.tieDataOut n = some (bits.getLsbD (39 - n)) := by
  simp [State.tieDataOut, h, BitVec.getMsbD, hn]

/-- Settles O56: a start judged on a READY head, each edge and end of shifting by its phase, the bits by
their fields. -/
theorem tieStartsAndIsAcknowledged : Obligations.TieStartsAndIsAcknowledged := by
  refine ⟨fun s held hrole hmode => ?_, ?_, fun s hrole hmode hp => ?_,
    fun s => ⟨State.tieDataOut_released, fun bits hbits n => State.tieDataOut_bit hbits⟩⟩
  · have hactive : s.dropActive := ⟨hrole, hmode⟩
    simp only [← State.readyHead_eq_none_iff]
    refine ⟨fun hrests => congrArg Host.Outcome.next (State.judgeTieStart_rests (s := s.taken _) hrests),
      fun hrests => ?_, ?_⟩
    · cases held with
      | true => exact exec_holdNoticeTiePort_held hactive
      | false =>
        rw [exec_holdNoticeTiePort_released hactive, State.judgeTieStart_rests]
        · rfl
        · exact (hrests.resolve_left Bool.false_ne_true).imp_right .inr
    · rintro c k b n started hidle hhead rfl hready hb hn rfl
      have hfirst := State.readyHead_eq_some_iff.mpr ⟨hhead, hready⟩
      have hrecord := tieRecordOf_bound (c := c) hb hn
      refine ⟨fun hheld => ?_, (exec_holdNoticeTiePort_released hactive).trans ?_⟩
      · exact congrArg Host.Outcome.next
          (State.judgeTieStart_starts (s := s.taken _) hactive hidle hheld hfirst hrecord)
      · exact congrArg Host.Outcome.next (State.judgeTieStart_starts
          (s := { s.taken _ with tie := { s.tie with held := false } }) hactive hidle rfl hfirst hrecord)
  · rintro s sendTie hdrop rfl
    refine ⟨fun hp ha => ?_, fun hp ha => ?_, fun hp ha => ?_, fun hp ha => ?_, exec_tackEdge_sending hdrop,
      exec_tackEdge_ignored hdrop, exec_tdoneEdge_reads hdrop, exec_tdoneEdge_late hdrop⟩
    · rw [exec_recordShifted_abort hdrop hp ha]
      split <;> rfl
    · rw [exec_recordShifted_tie hdrop hp ha]
      split <;> rfl
    · rw [exec_tackEdge_awaitAck hdrop hp, exec_ackLimitExpiry hdrop hp, if_pos ha, if_pos ha]
      exact ⟨rfl, rfl⟩
    · rw [exec_tackEdge_awaitAck hdrop hp, if_neg (by simp [ha])]
      rfl
  · have hstarted : s.dropStarted := ⟨hrole, hmode⟩
    refine ⟨fun r ha => State.tieRecordOut_tie hstarted hp ha, fun r ha hr => ?_, fun ha hnone => ?_⟩
    · rw [State.tieRecordOut_abort hstarted hp ha, hr, Option.getD_some]
    · rw [State.tieRecordOut_abort hstarted hp ha, hnone]
      rfl

end Sys2Proof.Machine
end

section
namespace Sys2Proof.Machine

variable {s : State} {r : TieRecord}

/-! ### The end of a tie (R161, R162) -/

theorem setsAbort_eq (code : TieCode) : setsAbort code = decide (code = .noAck ∨ code = .timeout) := by
  cases code <;> rfl

/-- The Tie Port back in IDLE with its return code and fault code. -/
def TiePort.ended (code : TieCode) (fault : BitVec 4) (p : TiePort) : TiePort :=
  { p with
    phase := .idle, abortStep := false, current := none, earlyAck := false, limit := none, shift := none
    abortPending := p.abortPending || decide (code = .noAck ∨ code = .timeout)
    lastCode := some code, lastFault := fault }

/-- R163: the count check's own counter, taken before the return code's. -/
def State.countChecked (mismatch : Bool) (s : State) : State :=
  if mismatch = true then s.bump .countMismatches else s

/-- The counters after a tie's end: the count check's and the return code's. -/
def State.tieCounted (code : TieCode) (mismatch : Bool) (s : State) : State :=
  (s.countChecked mismatch).bump (tieCounter code)

/-- What a tie's end leaves when no tie starts with it. -/
def State.tieEnded (cradle : CradleId) (code : TieCode) (fault : BitVec 4) (mismatch : Bool) (s : State) : State :=
  { s with
    tie := s.tie.ended code fault
    status := (s.tieCounted code mismatch).status
    handed := s.handed ++ [.tieResult cradle code] }

/-- R162: the port is IDLE again and a start is judged, which finds no READY head. -/
theorem State.endTie_rests (hcur : s.tie.current = some r) (hhead : s.readyHead = none) (code : TieCode) :
    s.endTie code
      = s.tieEnded r.cradle code (if setsAbort code = true then 0 else s.tie.lastFault) false := by
  rw [State.endTie]
  simp only [hcur, setsAbort_eq]
  exact State.judgeTieStart_rests (s := s.tieEnded r.cradle code _ false) (.inr (.inr hhead))

theorem exec_ackLimitExpiry_ends (h : s.dropLoaded) (hcur : s.tie.current = some r) (hhead : s.readyHead = none)
    (hp : s.tie.phase = .awaitAck) (ha : s.tie.abortStep = false) :
    exec .ackLimitExpiry s = .next (s.tieEnded r.cradle .noAck 0#4 false) := by
  rw [exec_ackLimitExpiry h hp, if_neg (by simp [ha]), State.endTie_rests hcur hhead]
  rfl

theorem exec_tieLimitExpiry_ends (h : s.dropLoaded) (hcur : s.tie.current = some r) (hhead : s.readyHead = none)
    (hp : s.tie.phase = .tying) :
    exec .tieLimitExpiry s = .next (s.tieEnded r.cradle .timeout 0#4 false) := by
  refine congrArg Host.Outcome.next ((if_pos ⟨h, hp⟩).trans ?_)
  rw [State.endTie_rests hcur hhead]
  rfl

/-! ### The status word (R160, R163, R185) -/

section
variable (outcome : BitVec 2) (counted : BitVec 6) (unused fault : BitVec 4)

theorem statusWord_toNat : (outcome ++ counted ++ unused ++ fault).toNat
    = outcome.toNat * 16384 + counted.toNat * 256 + unused.toNat * 16 + fault.toNat := by
  simp only [toNat_append_eq_add]
  omega

theorem tieCodeOf_append : tieCodeOf (outcome ++ counted ++ unused ++ fault)
    = if outcome = 0#2 then .tied else if outcome = 1#2 then .rework else .quit := by
  have houtcome : (outcome ++ counted ++ unused ++ fault).toNat / 16384 = outcome.toNat := by
    rw [statusWord_toNat]
    omega
  simp only [tieCodeOf, houtcome, ← BitVec.toNat_inj]
  rfl

theorem countedStems_append : countedStems (outcome ++ counted ++ unused ++ fault) = counted.toNat := by
  rw [countedStems, statusWord_toNat]
  omega

theorem tierFault_append : tierFault (outcome ++ counted ++ unused ++ fault) = fault := by
  refine BitVec.eq_of_toNat_eq ?_
  rw [tierFault, BitVec.truncate, BitVec.toNat_setWidth, statusWord_toNat]
  omega

end

theorem setsAbort_tieCodeOf (word : Word16) : setsAbort (tieCodeOf word) = false := by
  unfold tieCodeOf
  dsimp only
  split_ifs <;> rfl

/-- R163: only a tie that ends TIED is checked. -/
def countCheckFails (word : Word16) (r : TieRecord) : Bool :=
  decide (tieCodeOf word = .tied) && decide (countedStems word ≠ 0) && decide (countedStems word ≠ r.count)

theorem countCheckFails_iff (word : Word16) (r : TieRecord) :
    countCheckFails word r = true ↔ tieCodeOf word = .tied ∧ countMismatch word (some r) = true := by
  simp [countCheckFails, countMismatch, and_assoc]

theorem countCheckFails_append (outcome : BitVec 2) (counted : BitVec 6) (unused fault : BitVec 4) (r : TieRecord) :
    countCheckFails (outcome ++ counted ++ unused ++ fault) r
      = (decide (outcome = 0#2) && decide (counted.toNat ≠ 0) && decide (counted.toNat ≠ r.count)) := by
  have htied : tieCodeOf (outcome ++ counted ++ unused ++ fault) = .tied ↔ outcome = 0#2 := by
    rw [tieCodeOf_append]
    split_ifs <;> simp [*]
  simp only [countCheckFails, countedStems_append, htied]

theorem State.takeStatusWord_eq (hcur : s.tie.current = some r) (word : Word16) : s.takeStatusWord word
    = State.endTie (tieCodeOf word) (State.countChecked (countCheckFails word r)
      { s with tie := { s.tie with lastFault := tierFault word } }) := by
  refine congrArg (State.endTie _) (if_congr ?_ rfl rfl)
  rw [countCheckFails_iff, hcur]

theorem State.takeStatusWord_rests (hcur : s.tie.current = some r) (hhead : s.readyHead = none) (word : Word16) :
    s.takeStatusWord word = s.tieEnded r.cradle (tieCodeOf word) (tierFault word) (countCheckFails word r) := by
  rw [State.takeStatusWord_eq hcur, State.endTie_rests (r := r), setsAbort_tieCodeOf]
  all_goals cases countCheckFails word r
  exacts [rfl, rfl, hcur, hcur, hhead, hhead]

theorem exec_statusWordComplete_ends (h : s.dropLoaded) (hcur : s.tie.current = some r) (hhead : s.readyHead = none)
    (hp : s.tie.phase = .reading) (word : Word16) : exec (.statusWordComplete word) s
      = .next (s.tieEnded r.cradle (tieCodeOf word) (tierFault word) (countCheckFails word r)) :=
  congrArg Host.Outcome.next ((if_pos ⟨h, hp⟩).trans (State.takeStatusWord_rests hcur hhead word))

/-! ### The counters of an end (R162, R163) -/

theorem State.countChecked_counter (mismatch : Bool) (n : CounterName) : (s.countChecked mismatch).counter n
    = if mismatch = true ∧ n = .countMismatches then countUp (s.counter n) else s.counter n := by
  cases mismatch <;> simp [State.countChecked, State.bump_counter]

theorem State.tieCounted_counter (code : TieCode) (mismatch : Bool) (n : CounterName) :
    (s.tieCounted code mismatch).counter n
      = if n = tieCounter code ∨ (mismatch = true ∧ n = .countMismatches) then countUp (s.counter n)
        else s.counter n := by
  have hapart : n = tieCounter code → n ≠ .countMismatches := by
    rintro rfl
    cases code <;> decide
  rw [State.tieCounted, State.bump_counter, State.countChecked_counter]
  by_cases hcode : n = tieCounter code
  · simp [hcode, hcode ▸ hapart hcode]
  · simp [hcode]

theorem State.tieCounted_flags (code : TieCode) (mismatch : Bool) :
    (s.tieCounted code mismatch).status.flags = s.status.flags := by
  cases mismatch <;> rfl

/-- Settles O57: each of the three ends is `tieEnded`, whose counters are the return code's and the count check's. -/
theorem tieEndsWithAResult : Obligations.TieEndsWithAResult := by
  intro s r i code fault mismatch hdrop hcur hrests hend
  have hhead := State.readyHead_eq_none_iff.mpr hrests
  have hexec : exec i s = .next (s.tieEnded r.cradle code fault mismatch) := by
    rcases hend with ⟨rfl, hp, ha, rfl, rfl, rfl⟩ | ⟨rfl, hp, rfl, rfl, rfl⟩
      | ⟨outcome, counted, unused, rfl, hp, rfl, rfl⟩
    · exact exec_ackLimitExpiry_ends hdrop hcur hhead hp ha
    · exact exec_tieLimitExpiry_ends hdrop hcur hhead hp
    · rw [exec_statusWordComplete_ends hdrop hcur hhead hp, tieCodeOf_append, tierFault_append,
        countCheckFails_append]
  have hcounter (n : CounterName) := State.tieCounted_counter (s := s) code mismatch n
  have hother (n : CounterName) (htied : n ≠ .tied) (hreworked : n ≠ .reworked) (hfaults : n ≠ .tieFaults)
      (hmismatch : n ≠ .countMismatches) : (s.tieCounted code mismatch).counter n = s.counter n := by
    rw [hcounter]
    cases code <;> simp [tieCounter, htied, hreworked, hfaults, hmismatch]
  refine ⟨_, hexec, rfl, rfl, (hcounter _).trans ?_, (hcounter _).trans ?_, (hcounter _).trans ?_,
    (hcounter _).trans ?_, hother, State.tieCounted_flags code mismatch, rfl⟩
  all_goals cases code <;> simp [tieCounter]

end Sys2Proof.Machine
end

section
/-! SUPPORT. Proofs of the statements on start-up and configuration: the blocks before loading and at RESET, the memory
attempts, the checks of the record and its taking into use, the notices that set a held copy, the station mode under every
command, the outputs by role and mode. -/

namespace Sys2Proof.Machine

variable {s : State}

/-! ### Blocks at their reset values (R171, R178) -/

/-- Settles O11: no command of another block moves one before the end of loading, and a tick moves none that stands at
its reset values. -/
theorem blocksKeepResetValuesUntilLoaded : Obligations.BlocksKeepResetValuesUntilLoaded := by
  refine keptByEveryStep_of_exec_of_tick (fun _ _ hs => hs) (fun i s t hs hexec => ?_) fun _ hs hm => (hs hm).tick
  obtain ⟨u, hu, hidle⟩ := exec_idleBeforeLoad i hs
  cases hu.symm.trans hexec
  exact hidle

/-- Settles O4: the values of each block's reset, whatever the state before. -/
theorem resetReturnsTheResetValues : Obligations.ResetReturnsTheResetValues := by
  intro s
  refine ⟨s.resetBlocks, rfl, ?loader, ?tracker, ?bus, ?gauge, ?table, ?engine, ?cradles, ?release, ?tie,
    fun n => ?counters, fun f => ?flags, rfl, rfl, rfl, rfl, rfl⟩
  case loader => exact ⟨rfl, rfl, rfl, rfl, rfl, rfl, rfl⟩
  case tracker => exact ⟨rfl, rfl, rfl, rfl, rfl, rfl, rfl, rfl⟩
  case bus => exact ⟨rfl, rfl, rfl, rfl, rfl⟩
  case gauge => exact ⟨rfl, rfl, rfl, rfl, rfl, rfl, rfl, rfl, rfl⟩
  case table => exact ⟨rfl, rfl⟩
  case engine => exact ⟨rfl, rfl⟩
  case cradles => exact ⟨rfl, rfl, rfl, rfl, rfl, rfl, rfl⟩
  case release => exact ⟨rfl, rfl, rfl, rfl, rfl, rfl, rfl⟩
  case tie => exact ⟨rfl, rfl, rfl, rfl, rfl, rfl, rfl, rfl, rfl, rfl⟩
  case counters => cases n <;> rfl
  case flags => cases f <;> rfl

/-- Settles O5: the reset state is what RESET leaves of itself, with every list empty and every cradle EMPTY. -/
theorem resetIsSoundInEveryBlock : Obligations.ResetIsSoundInEveryBlock := by
  have htracker : State.reset.trackerSound := State.reset.resetBlocks_trackerSound
  have hidle : State.reset.idleBeforeLoad := htracker.1
  exact ⟨hidle, htracker, State.queueSound_of_empty rfl, State.watchSound_of_empty rfl (Nat.zero_le _),
    State.tableSound_of_empty rfl, State.reset.resetBlocks_tieQueueSound,
    State.cradlesSound_iff.mpr ⟨hidle, State.reset.resetBlocks_fits⟩, State.releaseSound_iff.mpr ⟨hidle, .reset _⟩⟩

/-! ### The straps and the memory attempts (R168, R169) -/

theorem exec_resetRelease (hm : s.loader.mode = .loading) (hr : s.loader.resetAsserted = true) (rolePin : Bool)
    (idPins : BitVec 6) : exec (.resetRelease rolePin idPins) s = .next (s.readStraps rolePin idPins) :=
  congrArg Host.Outcome.next (if_pos ⟨hm, hr⟩)

theorem exec_memoryNoAcknowledge (hm : s.loader.mode = .loading) :
    exec .memoryNoAcknowledge s = .next s.missAcknowledge :=
  congrArg Host.Outcome.next (if_pos hm)

theorem exec_retryWaitExpiry (hm : s.loader.mode = .loading) : exec .retryWaitExpiry s = .next s.retryRead :=
  congrArg Host.Outcome.next (if_pos hm)

theorem State.missAcknowledge_transaction {n : Nat} (h : s.loader.memory = .transaction n) :
    s.missAcknowledge = if n < 10 then s.setMemory (.retryWait n 100) else s.failCheck 1 := by
  simp only [State.missAcknowledge, h]
  rfl

theorem State.retryRead_wait {n : Nat} {left : Ticks} (h : s.loader.memory = .retryWait n left) :
    s.retryRead = s.setMemory (.transaction (n + 1)) := by
  simp only [State.retryRead, h]

/-- Settles O6: the straps, the wait after each of nine attempts, check 1 after the tenth. -/
theorem strapsAndMemoryAttempts : Obligations.StrapsAndMemoryAttempts := by
  intro s hm
  refine ⟨fun rolePin idPins hr => exec_resetRelease hm hr rolePin idPins, fun n hn hlt => ?_, fun n hn hge => ?_,
    fun n left hn => ?_⟩
  · rw [exec_memoryNoAcknowledge hm, State.missAcknowledge_transaction hn, if_pos hlt]
    rfl
  · rw [exec_memoryNoAcknowledge hm, State.missAcknowledge_transaction hn, if_neg (Nat.not_lt.mpr hge)]
    rfl
  · rw [exec_retryWaitExpiry hm, State.retryRead_wait hn]
    rfl

end Sys2Proof.Machine
end

section
namespace Sys2Proof.Machine

variable {record : List Byte} {role : Role} {id k n : Nat}

/-! ### The checks of the record (R170) -/

theorem outside_eq_true_iff {a b : Nat} : outside a b n = true ↔ n < a ∨ b < n := decide_eq_true_iff

theorem serviceBad_iff {i : Nat} : serviceBad record i = true ↔ 15 < byteAt record (33 + 4 * i)
    ∨ byteAt record (34 + 4 * i) < 1 ∨ 40 < byteAt record (34 + 4 * i) ∨ byteAt record (35 + 4 * i) < 1
    ∨ byteAt record (34 + 4 * i) < byteAt record (35 + 4 * i)
    ∨ (byteAt record (36 + 4 * i) ≠ 0 ∧ byteAt record (36 + 4 * i) ≠ 1) := by
  simp only [serviceBad, Bool.or_eq_true, decide_eq_true_iff, outside_eq_true_iff, or_assoc]
  omega

/-- Two of the first `n` values agree. -/
theorem not_nodup_map_range_iff {f : Nat → Nat} :
    ¬ ((List.range n).map f).Nodup ↔ ∃ i j, i < j ∧ j < n ∧ f i = f j := by
  rw [List.Nodup, List.pairwise_map, List.pairwise_iff_getElem]
  simp only [List.length_range, List.getElem_range, ne_eq, not_forall, not_not, exists_prop]
  exact ⟨fun ⟨i, j, _, hj, hlt, heq⟩ => ⟨i, j, hlt, hj, heq⟩,
    fun ⟨i, j, hlt, hj, heq⟩ => ⟨i, j, hlt.trans hj, hj, hlt, heq⟩⟩

theorem strictlyAscending_iff_isChain : ∀ {l : List Nat}, strictlyAscending l = true ↔ l.IsChain (· < ·)
  | [] => by simp [strictlyAscending]
  | [_] => by simp [strictlyAscending]
  | a :: b :: l => by simp [strictlyAscending, strictlyAscending_iff_isChain (l := b :: l)]

/-- Two neighbours of the first `n` values do not rise. -/
theorem not_strictlyAscending_map_range_iff {f : Nat → Nat} :
    strictlyAscending ((List.range n).map f) = false ↔ ∃ i, i + 1 < n ∧ f (i + 1) ≤ f i := by
  rw [← Bool.not_eq_true, strictlyAscending_iff_isChain, List.isChain_map, List.isChain_range]
  simp [Nat.lt_sub_iff_add_lt]

theorem commonChecks_failed_iff (h2 : 2 ≤ k) (h8 : k ≤ 8) : (k, true) ∈ commonChecks id record
    ↔ recordFails role id (crcOf record) (byteAt record) (pairAt record) k := by
  interval_cases k <;> simp [commonChecks, recordFails, outside_eq_true_iff, crcGood, or_assoc]
  -- check 6: the bit-rate code is above 2, or none of 0, 1 and 2
  omega

theorem dropChecks_failed_iff (crc : Word16) (h9 : 9 ≤ k) (h16 : k ≤ 16) :
    (k, true) ∈ dropChecks record ↔ recordFails .drop id crc (byteAt record) (pairAt record) k := by
  interval_cases k <;>
    simp [dropChecks, recordFails, outside_eq_true_iff, or_assoc, serviceBad_iff, not_nodup_map_range_iff]
  -- check 11: the entries' ranges and their classes stand in the other order
  exact or_congr_right (or_congr_right or_left_comm)

theorem gaugeChecks_failed_iff (crc : Word16) (h17 : 17 ≤ k) (h25 : k ≤ 25) :
    (k, true) ∈ gaugeChecks record ↔ recordFails .gauge id crc (byteAt record) (pairAt record) k := by
  have hnext (i : Nat) : 79 + 2 * (i + 1) = 81 + 2 * i := by omega
  interval_cases k <;> simp [gaugeChecks, recordFails, outside_eq_true_iff, or_assoc, boundsOf, lengthLimit,
    not_strictlyAscending_map_range_iff, hnext]

/-- A record can fail only the common checks and those of its role. -/
theorem recordFails_range {crc : Word16} {b w : Nat → Nat} (h : recordFails role id crc b w k) :
    2 ≤ k ∧ (k ≤ 8 ∨ (role = .drop ∧ 9 ≤ k ∧ k ≤ 16) ∨ (role = .gauge ∧ 17 ≤ k ∧ k ≤ 25)) := by
  unfold recordFails at h
  split at h <;> simp_all

theorem commonChecks_range : ∀ c ∈ commonChecks id record, 2 ≤ c.1 ∧ c.1 ≤ 8 := by
  simp [commonChecks]

theorem dropChecks_range : ∀ c ∈ dropChecks record, 9 ≤ c.1 ∧ c.1 ≤ 16 := by
  simp [dropChecks]

theorem gaugeChecks_range : ∀ c ∈ gaugeChecks record, 17 ≤ c.1 ∧ c.1 ≤ 25 := by
  simp [gaugeChecks]

/-- R170: the checks compare the bytes as the table gives. -/
theorem roleChecks_failed_iff : (k, true) ∈ roleChecks role id record
    ↔ recordFails role id (crcOf record) (byteAt record) (pairAt record) k := by
  constructor
  · intro h
    cases role with
    | drop =>
      rcases List.mem_append.mp h with hcommon | hdrop
      · obtain ⟨h2, h8⟩ := commonChecks_range _ hcommon
        exact (commonChecks_failed_iff h2 h8).mp hcommon
      · obtain ⟨h9, h16⟩ := dropChecks_range _ hdrop
        exact (dropChecks_failed_iff _ h9 h16).mp hdrop
    | gauge =>
      rcases List.mem_append.mp h with hcommon | hgauge
      · obtain ⟨h2, h8⟩ := commonChecks_range _ hcommon
        exact (commonChecks_failed_iff h2 h8).mp hcommon
      · obtain ⟨h17, h25⟩ := gaugeChecks_range _ hgauge
        exact (gaugeChecks_failed_iff _ h17 h25).mp hgauge
  · intro h
    obtain ⟨h2, h8 | ⟨rfl, h9, h16⟩ | ⟨rfl, h17, h25⟩⟩ := recordFails_range h
    · have hcommon := (commonChecks_failed_iff h2 h8).mpr h
      cases role <;> exact List.mem_append_left _ hcommon
    · exact List.mem_append_right _ ((dropChecks_failed_iff _ h9 h16).mpr h)
    · exact List.mem_append_right _ ((gaugeChecks_failed_iff _ h17 h25).mpr h)

/-- R172, R184: the fields of the record in use, times in ticks. -/
theorem recordTaken_configOf : recordTaken role (byteAt record) (pairAt record) (configOf role record) := by
  cases role with
  | drop =>
    have hservice : serviceAt record = fun i => ⟨byteAt record (33 + 4 * i), byteAt record (34 + 4 * i),
        byteAt record (35 + 4 * i), decide (byteAt record (36 + 4 * i) = 1)⟩ := rfl
    simp [recordTaken, configOf, dropConfig, commonConfig, servicesOf, hservice, Nat.mul_comm]
  | gauge => simp [recordTaken, configOf, gaugeConfig, commonConfig, boundsOf, Nat.mul_comm]

/-! ### The first failed check (R170) -/

theorem firstFailure_eq_zero : ∀ {l : List (Nat × Bool)}, (∀ j, (j, true) ∉ l) → firstFailure l = 0
  | [], _ => rfl
  | (n, true) :: _, h => absurd List.mem_cons_self (h n)
  | (_, false) :: rest, h => firstFailure_eq_zero (l := rest) fun j hj => h j (List.mem_cons_of_mem _ hj)

/-- Of a list in ascending order the first failed check is the least. -/
theorem firstFailure_eq_least : ∀ {l : List (Nat × Bool)}, l.Pairwise (fun c d => c.1 < d.1) → (k, true) ∈ l →
    (∀ j, (j, true) ∈ l → k ≤ j) → firstFailure l = k
  | (n, true) :: rest, hsorted, hk, hleast => by
    rcases List.mem_cons.mp hk with hfirst | hlater
    · cases hfirst
      rfl
    · exact absurd (hleast n List.mem_cons_self) (Nat.not_le.mpr ((List.pairwise_cons.mp hsorted).1 _ hlater))
  | (n, false) :: rest, hsorted, hk, hleast => by
    have hlater : (k, true) ∈ rest := by simpa using hk
    exact firstFailure_eq_least (l := rest) (List.pairwise_cons.mp hsorted).2 hlater
      fun j hj => hleast j (List.mem_cons_of_mem _ hj)

theorem roleChecks_ascending : (roleChecks role id record).Pairwise (fun c d => c.1 < d.1) := by
  cases role <;> simp [roleChecks, commonChecks, dropChecks, gaugeChecks]

theorem reasonOf_eq_zero_of_passed (h : ∀ j, (j, true) ∉ roleChecks role id record) : reasonOf role id record = 0 :=
  firstFailure_eq_zero h

theorem reasonOf_eq_least (hk : (k, true) ∈ roleChecks role id record)
    (hleast : ∀ j, (j, true) ∈ roleChecks role id record → k ≤ j) : reasonOf role id record = k :=
  firstFailure_eq_least roleChecks_ascending hk hleast

end Sys2Proof.Machine
end

section
namespace Sys2Proof.Machine

variable {s : State} {record : List Byte} {role : Role} {id k : Nat}

/-! ### The record read (R169, R172, R173) -/

/-- R169: 128 bytes clocked in are the record. -/
theorem readRecord_of_length (h : record.length = 128) : readRecord record = record :=
  List.take_left' h

theorem exec_recordReadComplete {attempt : Nat} (hm : s.loader.mode = .loading)
    (hmemory : s.loader.memory = .transaction attempt) (hrole : s.loader.role = some role)
    (hlength : record.length = 128) : exec (.recordReadComplete record) s = .next (s.judgeRecord role record) := by
  have hread : s.endRead record = s.judgeRecord role (readRecord record) := by
    simp only [State.endRead, hmemory, hrole]
  rw [readRecord_of_length hlength] at hread
  exact congrArg Host.Outcome.next ((if_pos hm).trans hread)

theorem State.judgeRecord_failed (h : reasonOf role s.stationId record = k) (hk : k ≠ 0) :
    s.judgeRecord role record = s.failCheck k := by
  subst h
  exact if_neg hk

/-- The station with its blocks loaded, its HELLO not yet offered (R172). -/
def State.announced (role : Role) (cfg : StationConfig) (s : State) : State :=
  ((((s.loadTracker role cfg).loadLineBus).loadRoleBlocks role).loadStatusPort).beginAnnouncing cfg

/-- R19, R172: the controller enters WAIT_GAP. -/
theorem State.announced_bus (cfg : StationConfig) :
    (s.announced role cfg).bus = { s.bus with state := .waitGap, gap := 0 } := by
  cases role <;> rfl

/-- R30, R173: the HELLO as it stands in the queue. -/
theorem newQueued_hello (cfg : StationConfig) (code : Nat) :
    newQueued cfg (plainFrame id (.hello code)) = ⟨⟨8192 + id, .hello code⟩, none, 0, false, none⟩ := by
  simp [newQueued, plainFrame, contentionValue, kindCode, deadlineOf]

/-- R173: on an empty queue the HELLO joins. -/
theorem State.takeRecord_of_empty (hqueue : s.bus.queue = []) (cfg : StationConfig) :
    s.takeRecord role cfg = { s.announced role cfg with
      bus := { s.bus with
        state := .waitGap, gap := 0
        queue := [⟨⟨8192 + s.stationId, .hello (roleCode role)⟩, none, 0, false, none⟩] } } := by
  have hroom : (s.announced role cfg).bus.queue = [] := by rw [State.announced_bus, hqueue]
  have hjoined : s.takeRecord role cfg = (s.announced role cfg).enqueue _ :=
    State.offered_joined (s := s.announced role cfg) (.inl rfl) rfl (by simp [hroom])
  rw [hjoined, State.enqueue, hroom, State.announced_bus, insertByValue, newQueued_hello]

/-- Settles O7: the checks are those of the table, the first failed one of their ascending list is the least, and a record
that passes them all leaves the blocks loaded with a HELLO queued. -/
theorem recordReadIsJudgedAndTakenIntoUse : Obligations.RecordReadIsJudgedAndTakenIntoUse := by
  intro s role attempt bytes hm hmemory hrole hlength
  have hexec := exec_recordReadComplete hm hmemory hrole hlength
  refine ⟨fun b w hb hw => ?checks, fun k hk hleast => ?failed, fun hpassed hqueue => ?passed⟩
  case checks =>
    obtain rfl : b = byteAt bytes := funext hb
    obtain rfl : w = pairAt bytes := funext hw
    exact ⟨fun k => roleChecks_failed_iff, recordTaken_configOf⟩
  case failed =>
    have hpos : k ≠ 0 := by
      have := (recordFails_range (roleChecks_failed_iff.mp hk)).1
      omega
    rw [hexec, State.judgeRecord_failed (reasonOf_eq_least hk hleast) hpos]
    rfl
  case passed =>
    have htaken : s.judgeRecord role bytes = _ :=
      (if_pos (reasonOf_eq_zero_of_passed hpassed)).trans (State.takeRecord_of_empty hqueue (configOf role bytes))
    refine ⟨_, hexec.trans (congrArg Host.Outcome.next htaken), ?_⟩
    cases role with
    | drop =>
      exact ⟨rfl, rfl, rfl, rfl, rfl, fun _ => ⟨rfl, rfl, rfl, rfl, rfl, rfl, rfl⟩, nofun, rfl, rfl, rfl, rfl, rfl⟩
    | gauge => exact ⟨rfl, rfl, rfl, rfl, rfl, nofun, fun _ => ⟨rfl, rfl⟩, rfl, rfl, rfl, rfl, rfl⟩

end Sys2Proof.Machine
end

section
namespace Sys2Proof.Machine

variable {s : State}

/-! ### The notices of ANNOUNCING's end and of the entry to HALTED (R175, R176) -/

theorem exec_announceTimerExpiry (hm : s.loader.mode = .announcing) (ha : s.loader.announce ≠ none) :
    exec .announceTimerExpiry s = .next { s with
      loader := { s.loader with mode := .active, announce := none }
      handed := s.handed ++ modeNotices s.loader.role s.engine.held } :=
  congrArg Host.Outcome.next (if_pos ⟨hm, ha⟩)

theorem exec_modeNotice (h : s.dropStarted) (block : Block) (held : Bool) :
    exec (.modeNotice block held) s = .next ((s.taken (.modeNotice block held)).takeModeNotice block held) :=
  congrArg Host.Outcome.next (if_pos h)

theorem exec_haltNotice (hm : s.loader.mode = .halted) (block : Block) (held : Bool) :
    exec (.haltNotice block held) s = .next ((s.taken (.haltNotice block held)).takeHaltNotice block held) :=
  congrArg Host.Outcome.next (if_pos hm)

/-- Settles O8: the mode notices are handed to the three blocks with a held copy, and each sets its copy; the Tie Port
finds no cradle to tie. -/
theorem announcingEndsInActive : Obligations.AnnouncingEndsInActive := by
  refine ⟨fun s hm ha => ⟨fun hrole => ?_, fun hrole => ?_⟩, fun s held hrole hm => ?_⟩
  · rw [exec_announceTimerExpiry hm ha, hrole]
    rfl
  · rw [exec_announceTimerExpiry hm ha, hrole]
    simp only [modeNotices, List.append_nil]
  · have hstarted : s.dropStarted := ⟨hrole, .inl hm⟩
    refine ⟨exec_modeNotice hstarted _ _, exec_modeNotice hstarted _ _, fun hqueue => ?_⟩
    rw [exec_modeNotice hstarted, State.takeModeNotice, State.judgeTieStart_rests]
    · rfl
    · exact .inr (.inr (State.readyHead_eq_none_iff.mpr fun c hc => by simp [hqueue] at hc))

/-- R86: the operation a leaving entry hands over, by its state. -/
theorem haltOperation_eq : haltOperation = fun st => match st with
    | .tentative c _ _ => [.returnCount c]
    | .mine c => [.miss c]
    | _ => [] := by
  funext st
  cases st <;> rfl

/-- R152: the MISS a record leaves behind. -/
theorem haltMiss_eq (record : Option ReleaseRecord) : haltMiss record = match record with
    | some r => [.miss r.cradle]
    | none => [] := by
  cases record <;> rfl

/-- Settles O9: each block of the role takes its notice in HALTED. -/
theorem haltNoticeIsTakenByEachBlock : Obligations.HaltNoticeIsTakenByEachBlock := by
  intro s held hm
  refine ⟨exec_haltNotice hm _ _, fun hrole => ?gauge, fun hrole => ?drop⟩
  case gauge =>
    exact (exec_haltNotice hm _ _).trans (congrArg Host.Outcome.next (if_pos hrole))
  case drop =>
    have hdrop {block : Block} {t : State}
        (ht : (s.taken (.haltNotice block held)).takeHaltNotice block held = if s.loader.role = some .drop then t
          else s.taken (.haltNotice block held)) : exec (.haltNotice block held) s = .next t := by
      rw [exec_haltNotice hm, ht, if_pos hrole]
    refine ⟨?table, exec_haltNotice hm _ _, hdrop rfl, hdrop rfl, _, hdrop rfl, rfl, rfl, rfl, rfl, rfl, rfl, rfl, rfl,
      ?misses⟩
    case table =>
      rw [hdrop rfl, State.haltFlightTable, haltOperation_eq]
      rfl
    case misses =>
      change _ ++ (haltMiss _ ++ haltMiss _) = _
      rw [haltMiss_eq, haltMiss_eq, ← List.append_assoc]
      rfl

end Sys2Proof.Machine
end

section
namespace Sys2Proof.Machine

variable {s t : State}

/-! ### The station mode (09, section 9.1) -/

theorem modeMoves_refl (m : Mode) : modeMoves m m = true := by
  cases m <;> rfl

/-- The commands with a move of the table of 9.1: RESET, the reports of the memory read, the announce timer, and the heard
frames that may bring a halt report (R170, R175, R176, R178). -/
def movesMode : Instr → Bool
  | .reset | .memoryNoAcknowledge | .recordReadComplete _ | .announceTimerExpiry | .frameSent | .frameHeard _ => true
  | _ => false

theorem execRemovalRequest_mode (body : FrameBody) :
    ∃ t, execRemovalRequest body s = .next t ∧ t.loader.mode = s.loader.mode := by
  refine ⟨_, rfl, ?_⟩
  split
  · split <;> next answer => simp [State.loader_tracker_of_requestRemoval answer]
  · rfl

@[simp] theorem State.retryRead_mode : s.retryRead.loader.mode = s.loader.mode := by
  unfold State.retryRead
  split <;> rfl

/-- Every other command leaves the mode alone. -/
theorem exec_mode (i : Instr) (hi : movesMode i = false) :
    ∃ t, exec i s = .next t ∧ t.loader.mode = s.loader.mode := by
  cases i with
  | reset | memoryNoAcknowledge | recordReadComplete _ | announceTimerExpiry | frameSent | frameHeard _ => cases hi
  -- the loader, the inputs and the tracker
  | retryWaitExpiry => exact ⟨_, rfl, by split <;> simp⟩
  | resetRelease _ _ | stall | holdLevelChange _ => exact ⟨_, rfl, by split <;> rfl⟩
  | modeNotice _ _ | haltNotice _ _ | helloOutcome _ | filterInputAsserted _ | filterInputReleased _ | filteredGateEdge
  | cpQualification _ => exact ⟨_, rfl, by (repeat' split) <;> simp⟩
  -- the line and its queue
  | removalRequest body => exact execRemovalRequest_mode body
  | idleGapComplete | dominantLevelInWaitGap | contentionWindow | contentionLost | contentionDriveFailed | contentionWon
  | spoil | frameDiscarded _ | stuckEntry | stuckExit | carrierNotice _ =>
    exact ⟨_, rfl, by (repeat' split) <;> simp⟩
  -- the gauge
  | gaugeCarrierArrival _ | scanDue _ | srdyAsserted | scanRecordComplete _ | responseLimitExpiry | lotPress
  | gaugeStemHeard _ _ | gaugeClaimHeard _ | gaugeYieldHeard _ | stemOutcome _ _ | lotOutcome _ _ _ =>
    exact ⟨_, rfl, by (repeat' split) <;> simp⟩
  -- the flight table and the claim engine
  | flightTableStem _ _ _ | flightTableClaim _ _ _ | flightTableYield _ _ _ | flightTableLot _ _
  | flightTableCarrierArrival _ | clearNoticeFlightTable _ | claimOutcome _ _ | claimEngineCarrierArrival _
  | passRequest | holdAssertion | holdRelease | yieldRequest _ _ | yieldOutcome _ _ _ =>
    exact ⟨_, rfl, by (repeat' split) <;> simp⟩
  -- the cradles
  | win _ | returnCount _ | miss _ | place _ | cradleCarrierArrival _ | closeLot _ | clear _ | tieResult _ _
  | uncertainMark _ => exact ⟨_, rfl, by split <;> simp⟩
  | holdNoticeCradle _ | holdNoticeTiePort _ | holdNoticeReleaseUnit _ =>
    exact ⟨_, rfl, by dsimp only; (repeat' split) <;> simp⟩
  -- the release unit, the tie port and the status port
  | ackPress => exact ⟨_, rfl, by split <;> rfl⟩
  | releaseHandover _ _ _ | releaseCarrierStep _ | clearNoticeRelease _ | flapSettleExpiry | delayExpiry
  | pulseEndExpiry | confirmationWindowExpiry | queueNotice | recordShifted | tackEdge | tdoneEdge | ackLimitExpiry
  | tieLimitExpiry | statusWordComplete _ | snapshot | sselRelease | lampFlashToggle =>
    exact ⟨_, rfl, by (repeat' split) <;> simp⟩

theorem modeMoves_of_eq {m n : Mode} (h : n = m) : modeMoves m n = true := h ▸ modeMoves_refl m

theorem modeMoves_ite {m : Mode} {p : Prop} [Decidable p] {a b : State} (ha : p → modeMoves m a.loader.mode = true)
    (hb : ¬ p → modeMoves m b.loader.mode = true) : modeMoves m (if p then a else b).loader.mode = true := by
  split
  case isTrue hp => exact ha hp
  case isFalse hp => exact hb hp

/-- R170: a failed check takes LOADING to CONFIG_FAULT. -/
theorem State.failCheck_modeMoves (hm : s.loader.mode = .loading) (reason : Nat) :
    modeMoves s.loader.mode (s.failCheck reason).loader.mode = true := by
  rw [hm]
  rfl

theorem State.missAcknowledge_modeMoves (hm : s.loader.mode = .loading) :
    modeMoves s.loader.mode s.missAcknowledge.loader.mode = true := by
  unfold State.missAcknowledge
  split
  case h_1 => exact modeMoves_ite (fun _ => modeMoves_refl _) fun _ => State.failCheck_modeMoves hm 1
  all_goals exact modeMoves_refl _

/-- R170, R172: the record read takes LOADING to ANNOUNCING or to CONFIG_FAULT. -/
theorem State.endRead_modeMoves (hm : s.loader.mode = .loading) (bytes : List Byte) :
    modeMoves s.loader.mode (s.endRead bytes).loader.mode = true := by
  unfold State.endRead
  split
  case h_1 role _ _ =>
    exact modeMoves_ite (fun _ => by rw [(s.takeRecord_loader_tracker _ _).1, hm]; rfl)
      fun _ => State.failCheck_modeMoves hm _
  all_goals exact modeMoves_refl _

/-- R176: a halt report takes ANNOUNCING and ACTIVE to HALTED. -/
theorem State.haltReport_modeMoves (ho : s.offersAccepted) : modeMoves s.loader.mode s.haltReport.loader.mode = true := by
  rcases ho with hm | hm <;> rw [hm] <;> rfl

theorem State.hearFrame_modeMoves (own : Bool) (f : Frame) :
    modeMoves s.loader.mode (s.hearFrame own f).loader.mode = true := by
  refine modeMoves_ite (fun _ => modeMoves_refl _) fun ho => ?_
  have ho := not_not.mp ho
  exact modeMoves_ite (fun _ => State.haltReport_modeMoves (s := (s.bump .framesHeard).raise .duplicateId) ho) fun _ =>
    modeMoves_ite (fun _ => State.haltReport_modeMoves (s := (s.bump .framesHeard).raise .gaugeConflict) ho) fun _ =>
    modeMoves_of_eq (by split <;> simp)

theorem State.hearFrame_modeMoves_of_eq (h : t.loader = s.loader) (own : Bool) (f : Frame) :
    modeMoves s.loader.mode (t.hearFrame own f).loader.mode = true :=
  h ▸ State.hearFrame_modeMoves own f

theorem execFrameSent_modeMoves : ∃ t, execFrameSent s = .next t ∧ modeMoves s.loader.mode t.loader.mode = true := by
  refine ⟨_, rfl, modeMoves_ite (fun _ => ?_) fun _ => modeMoves_refl _⟩
  dsimp only
  split
  · exact modeMoves_refl _
  · exact State.hearFrame_modeMoves_of_eq (by simp) _ _

theorem execFrameHeard_modeMoves (chars : List Byte) :
    ∃ t, execFrameHeard chars s = .next t ∧ modeMoves s.loader.mode t.loader.mode = true := by
  refine ⟨_, rfl, modeMoves_ite (fun _ => ?_) fun _ => modeMoves_refl _⟩
  split
  · exact modeMoves_of_eq (by simp)
  · exact State.hearFrame_modeMoves_of_eq (by simp) _ _

/-- Every command but RESET makes a move of the table, or none. -/
theorem exec_modeMoves {i : Instr} (hi : i ≠ .reset) :
    ∃ t, exec i s = .next t ∧ modeMoves s.loader.mode t.loader.mode = true := by
  cases hmoves : movesMode i with
  | false =>
    obtain ⟨t, ht, hmode⟩ := exec_mode (s := s) i hmoves
    exact ⟨t, ht, modeMoves_of_eq hmode⟩
  | true =>
    cases i with
    | reset => exact absurd rfl hi
    | memoryNoAcknowledge =>
      exact ⟨_, rfl, modeMoves_ite State.missAcknowledge_modeMoves fun _ => modeMoves_refl _⟩
    | recordReadComplete bytes =>
      exact ⟨_, rfl, modeMoves_ite (fun hm => State.endRead_modeMoves hm bytes) fun _ => modeMoves_refl _⟩
    | announceTimerExpiry =>
      exact ⟨_, rfl, modeMoves_ite (fun ⟨hm, _⟩ => by rw [hm]; rfl) fun _ => modeMoves_refl _⟩
    | frameSent => exact execFrameSent_modeMoves
    | frameHeard chars => exact execFrameHeard_modeMoves chars
    | _ => cases hmoves

/-! ### The outputs (R38, R154, R169, R177) -/

theorem requesting_iff (p : ScanPort) : requesting p = true ↔ ∃ timer position, p = .awaiting timer false position := by
  cases p <;> simp [requesting]

theorem clockingIn_iff (p : ScanPort) : clockingIn p = true ↔ ∃ timer position, p = .awaiting timer true position := by
  cases p <;> simp [clockingIn]

theorem inTransaction_iff (m : MemoryRead) : inTransaction m = true ↔ ∃ attempt, m = .transaction attempt := by
  cases m <;> simp [inTransaction]

/-- R177: in gauge role the outputs of the drop blocks rest, and in ACTIVE the scan port is driven (R38). -/
theorem State.gauge_outputs (hrole : s.loader.role = some .gauge) :
    s.relOutput = false ∧ s.flapOutput = .a ∧ s.tieClockRuns = false
    ∧ (s.loader.mode = .active →
      s.scanRequestOutput = requesting s.gauge.port ∧ s.scanClockRuns = clockingIn s.gauge.port) := by
  simp +contextual [State.relOutput, State.flapOutput, State.tieClockRuns, State.scanRequestOutput,
    State.scanClockRuns, hrole]

/-- R177: in drop role the scan port rests, and in ACTIVE the release outputs and the tie port are driven; a tie in
progress goes on in HALTED (R154). -/
theorem State.drop_outputs (hrole : s.loader.role = some .drop) :
    s.scanRequestOutput = false ∧ s.scanClockRuns = false
    ∧ (s.loader.mode = .active → s.relOutput = s.release.rel ∧ s.flapOutput = s.release.flap)
    ∧ (s.loader.mode = .active ∨ s.loader.mode = .halted →
      (s.tieClockRuns = true ↔ s.tie.phase = .sending ∨ s.tie.phase = .reading)) := by
  simp +contextual [State.relOutput, State.flapOutput, State.tieClockRuns, State.scanRequestOutput,
    State.scanClockRuns, hrole]

theorem State.memoryClockRuns_iff (hm : s.loader.mode = .loading) :
    s.memoryClockRuns = true ↔ ∃ attempt, s.loader.memory = .transaction attempt := by
  simp [State.memoryClockRuns, hm, inTransaction_iff]

/-- Settles O10: RESET, five commands that move the mode by the table, and no others move it; each output is gated by role
and mode. -/
theorem modeMovesOnlyAsTheTableGives : Obligations.ModeMovesOnlyAsTheTableGives := by
  refine ⟨fun i s t hexec => ?mode, State.safeOutputs_holds, fun s hrole => ?gauge, fun s => State.drop_outputs,
    fun s missed n hm => ⟨State.memoryClockRuns_iff hm, fun htransaction => ?memory⟩, rfl⟩
  case mode =>
    by_cases hi : i = .reset
    · subst hi
      cases hexec
      exact .inl ⟨rfl, rfl⟩
    · obtain ⟨u, hu, hmoves⟩ := exec_modeMoves (s := s) hi
      cases hu.symm.trans hexec
      exact .inr hmoves
  case gauge =>
    obtain ⟨hrel, hflap, htie, hscan⟩ := State.gauge_outputs hrole
    refine ⟨hrel, hflap, htie, fun hm => ?_⟩
    rw [(hscan hm).1, (hscan hm).2]
    exact ⟨requesting_iff _, clockingIn_iff _⟩
  case memory =>
    exact if_pos ((State.memoryClockRuns_iff hm).mpr htransaction)

end Sys2Proof.Machine
end


section
namespace Sys2Proof.Machine

/-! ### Fields of a record -/

/-- The bytes of a field stand in a record from a place on. -/
def HoldsAt (bytes : List Byte) (place : Nat) (field : List Byte) : Prop :=
  ∃ before after, bytes = before ++ (field ++ after) ∧ before.length = place

namespace HoldsAt

variable {bytes field first second : List Byte} {place : Nat}

theorem whole (bytes : List Byte) : HoldsAt bytes 0 bytes := ⟨[], [], by simp, rfl⟩

theorem left (h : HoldsAt bytes place (first ++ second)) : HoldsAt bytes place first := by
  obtain ⟨before, after, rfl, hplace⟩ := h
  exact ⟨before, second ++ after, by simp, hplace⟩

theorem right {length : Nat} (h : HoldsAt bytes place (first ++ second)) (hlength : first.length = length) :
    HoldsAt bytes (place + length) second := by
  obtain ⟨before, after, rfl, hplace⟩ := h
  exact ⟨before ++ first, after, by simp, by simp [hplace, hlength]⟩

/-- Of fields of one length, the one at an index. -/
theorem flatMap {α : Type} {fieldOf : α → List Byte} {length : Nat} (hlength : ∀ x, (fieldOf x).length = length)
    {l : List α} {i : Nat} {x : α} (h : HoldsAt bytes place (l.flatMap fieldOf)) (hx : l[i]? = some x) :
    HoldsAt bytes (place + length * i) (fieldOf x) := by
  induction l generalizing place i with
  | nil => simp at hx
  | cons y rest ih =>
    rw [List.flatMap_cons] at h
    cases i with
    | zero =>
      cases hx
      exact h.left
    | succ i =>
      have hrest := ih (h.right (hlength y)) hx
      rwa [Nat.add_assoc, Nat.add_comm length, ← Nat.mul_succ] at hrest

theorem take_drop (h : HoldsAt bytes place field) {length : Nat} (hlength : field.length = length) :
    (bytes.drop place).take length = field := by
  obtain ⟨before, after, rfl, hplace⟩ := h
  rw [List.drop_left' hplace, List.take_left' hlength]

/-- The byte at an index of the field. -/
theorem getElem? (h : HoldsAt bytes place field) {i : Nat} {byte : Byte} (hi : field[i]? = some byte) :
    bytes[place + i]? = some byte := by
  obtain ⟨before, after, rfl, rfl⟩ := h
  obtain ⟨hlt, -⟩ := List.getElem?_eq_some_iff.mp hi
  rw [List.getElem?_append_right (Nat.le_add_right _ _), Nat.add_sub_cancel_left, List.getElem?_append_left hlt, hi]

/-- A number that its bytes can hold is read back. -/
theorem numberOf_take_drop {n v : Nat} (h : HoldsAt bytes place (bytesOf n v)) (hv : v < 256 ^ n) :
    numberOf ((bytes.drop place).take n) = v := by
  rw [h.take_drop (bytesOf_length n v), numberOf_bytesOf hv]

end HoldsAt

/-! ### The layout of the status record (R186) -/

variable {s : State}

theorem cradleBytes_length (k : Cradle) : (cradleBytes k).length = 9 := rfl

theorem State.dropBytes_length : s.dropBytes.length = 21 := by
  unfold State.dropBytes
  split <;> rfl

theorem State.gaugeBytes_length : s.gaugeBytes.length = 3 := by
  unfold State.gaugeBytes
  split <;> rfl

/-- R186: role, id, mode, reason and tracker state in bytes 0 to 4. -/
def State.headBytes (s : State) : List Byte :=
  [statusByte (roleByte s.loader.role), statusByte s.stationId, statusByte (modeByte s.loader.mode),
    statusByte s.loader.reason, statusByte (trackerByte s.tracker.state)]

/-- R186: the forty counters, two bytes each. -/
def State.counterBytes (s : State) : List Byte := CounterName.all.flatMap fun n => bytesOf 2 (s.counter n).toNat

theorem State.statusRecord_eq : s.statusRecord = s.headBytes ++ (bytesOf 2 (s.tracker.slotHere.getD unsyncedSlotCode)
    ++ (bytesOf 3 s.tracker.period ++ (s.dropBytes ++ (s.gaugeBytes
    ++ (bytesOf 2 (flagsNumber s.status.flags FlagName.all) ++ s.counterBytes))))) := by
  simp only [State.statusRecord, State.headBytes, State.counterBytes, List.append_assoc]

/-- R186: each field at its place. -/
theorem State.statusRecord_holds : HoldsAt s.statusRecord 0 s.headBytes
    ∧ HoldsAt s.statusRecord 5 (bytesOf 2 (s.tracker.slotHere.getD unsyncedSlotCode))
    ∧ HoldsAt s.statusRecord 7 (bytesOf 3 s.tracker.period) ∧ HoldsAt s.statusRecord 10 s.dropBytes
    ∧ HoldsAt s.statusRecord 31 s.gaugeBytes
    ∧ HoldsAt s.statusRecord 34 (bytesOf 2 (flagsNumber s.status.flags FlagName.all))
    ∧ HoldsAt s.statusRecord 36 s.counterBytes := by
  have hhead := HoldsAt.whole s.statusRecord
  rw (occs := .pos [2]) [State.statusRecord_eq] at hhead
  have hslot := hhead.right (length := 5) rfl
  have hperiod := hslot.right (bytesOf_length _ _)
  have hdrop := hperiod.right (bytesOf_length _ _)
  have hgauge := hdrop.right State.dropBytes_length
  have hflags := hgauge.right State.gaugeBytes_length
  have hcounters := hflags.right (bytesOf_length _ _)
  exact ⟨hhead.left, hslot.left, hperiod.left, hdrop.left, hgauge.left, hflags.left, hcounters⟩

theorem State.statusRecord_length : s.statusRecord.length = 116 := by
  have hcounters : s.counterBytes.length = 80 := rfl
  simp only [State.statusRecord_eq, List.length_append, bytesOf_length, State.dropBytes_length, State.gaugeBytes_length,
    hcounters, State.headBytes, List.length_cons, List.length_nil]

/-! ### The flags as a number -/

theorem bitOf_add_double_div (b : Bool) (n : Nat) : (bitOf b + 2 * n) / 2 = n := by
  have hb := b.toNat_lt
  rw [bitOf_eq_toNat]
  omega

theorem testBit_zero_bitOf_add_double (b : Bool) (n : Nat) : (bitOf b + 2 * n).testBit 0 = b := by
  rw [Nat.testBit_zero, Nat.add_mul_mod_self_left]
  cases b <;> rfl

/-- R186: each flag is a bit, in the order of the list. -/
theorem testBit_flagsNumber (f : Flags) {l : List FlagName} {i : Nat} {n : FlagName} (h : l[i]? = some n) :
    (flagsNumber f l).testBit i = f.get n := by
  induction l generalizing i with
  | nil => simp at h
  | cons m rest ih =>
    cases i with
    | zero =>
      cases h
      rw [flagsNumber, testBit_zero_bitOf_add_double]
    | succ i => rw [flagsNumber, Nat.testBit_succ, bitOf_add_double_div, ih h]

theorem flagsNumber_lt (f : Flags) (l : List FlagName) : flagsNumber f l < 2 ^ l.length := by
  induction l with
  | nil => exact Nat.one_pos
  | cons m rest ih =>
    have hbit := (f.get m).toNat_lt
    rw [flagsNumber, bitOf_eq_toNat, List.length_cons, pow_succ]
    omega

/-! ### The bits on SSDO (R179) -/

theorem State.statusDataOut_reading (bytes : List Byte) (n : Nat) :
    State.statusDataOut { s with status := { s.status with snapshot := some bytes } } n
      = some ((bytes.getD (n / 8) 0).getLsbD (7 - n % 8)) := rfl

/-- R179: a byte's bits follow those of the bytes before it, the most significant first. -/
theorem State.statusDataOut_of_getElem? {bytes : List Byte} {i j : Nat} {byte : Byte} (hbyte : bytes[i]? = some byte)
    (hj : j < 8) : State.statusDataOut { s with status := { s.status with snapshot := some bytes } } (8 * i + j)
      = some (byte.getLsbD (7 - j)) := by
  have hi : (8 * i + j) / 8 = i := by omega
  have hbit : (8 * i + j) % 8 = j := by omega
  rw [State.statusDataOut_reading, hi, hbit, List.getD_eq_getElem?_getD, hbyte, Option.getD_some]

/-- R179: zeros after the record. -/
theorem State.statusDataOut_of_length_le {bytes : List Byte} {n : Nat} (h : 8 * bytes.length ≤ n) :
    State.statusDataOut { s with status := { s.status with snapshot := some bytes } } n = some false := by
  have hend : bytes.length ≤ n / 8 := by omega
  rw [State.statusDataOut_reading, List.getD_eq_default _ _ hend]
  simp

/-! ### Bytes of the record -/

/-- R186: the nine bytes of a cradle. -/
theorem HoldsAt.cradle_fields {bytes : List Byte} {place : Nat} {k : Cradle} (h : HoldsAt bytes place (cradleBytes k)) :
    bytes[place]? = some (match k.state with
        | .empty => 0#8 | .opened => 1#8 | .sealed => 2#8 | .ready => 3#8 | .tying => 4#8 | .faulted => 5#8)
      ∧ bytes[place + 1]? = some (match k.binding with | none => 0#8 | some b => BitVec.ofNat 8 b.cls)
      ∧ bytes[place + 2]? = some (match k.binding with | none => 0#8 | some b => BitVec.ofNat 8 b.lot)
      ∧ bytes[place + 3]? = some (BitVec.ofNat 8 k.placed)
      ∧ bytes[place + 4]? = some (BitVec.ofNat 8 k.won)
      ∧ bytes[place + 5]? = some (BitVec.ofNat 8 k.tentative)
      ∧ (∃ marks, bytes[place + 6]? = some marks ∧ marks.getLsbD 0 = k.short ∧ marks.getLsbD 1 = k.uncertain
        ∧ marks.getLsbD 2 = k.stale)
      ∧ numberOf ((bytes.drop (place + 7)).take 2) = (match k.bunch with | none => 0 | some n => n.toNat) := by
  refine ⟨(h.getElem? (i := 0) rfl).trans ?state, (h.getElem? (i := 1) rfl).trans ?cls,
    (h.getElem? (i := 2) rfl).trans ?lot, h.getElem? (i := 3) rfl, h.getElem? (i := 4) rfl, h.getElem? (i := 5) rfl,
    ⟨statusByte (cradleFlags k), h.getElem? (i := 6) rfl, ?marks⟩, ?bunch⟩
  case state => cases k.state <;> rfl
  case cls => cases k.binding <;> rfl
  case lot => cases k.binding <;> rfl
  case marks =>
    unfold cradleFlags
    cases k.short <;> cases k.uncertain <;> cases k.stale <;> decide
  case bunch =>
    rw [(h.right (length := 7) rfl).numberOf_take_drop (k.bunch.getD 0).isLt]
    cases k.bunch <;> rfl

/-- R186: bytes 10 to 30 in drop role. -/
theorem State.dropBytes_holds (hrole : s.loader.role = some .drop) : HoldsAt s.statusRecord 10 (cradleBytes s.cradles.a)
    ∧ HoldsAt s.statusRecord 19 (cradleBytes s.cradles.b)
    ∧ HoldsAt s.statusRecord 28 [statusByte (tieQueueByte s.cradles.tieQueue),
        statusByte (lastCodeByte s.tie.lastCode), statusByte s.tie.lastFault.toNat] := by
  obtain ⟨-, -, -, hdrop, -⟩ := s.statusRecord_holds
  rw [State.dropBytes, if_pos hrole] at hdrop
  have hcradles := hdrop.left
  exact ⟨hcradles.left, hcradles.right (cradleBytes_length _), hdrop.right (length := 18) rfl⟩

theorem State.gaugeBytes_drop (hrole : s.loader.role = some .drop) : s.gaugeBytes = [0#8, 0#8, 0#8] := by
  simp [State.gaugeBytes, hrole]

theorem State.gaugeBytes_gauge (hrole : s.loader.role = some .gauge) : s.gaugeBytes
    = [BitVec.ofNat 8 s.gauge.lotNumber, BitVec.ofNat 8 s.gauge.watch.length,
      BitVec.ofNat 8 (s.gauge.lastUnserved.getD 255)] :=
  if_pos hrole

theorem State.dropBytes_gauge (hrole : s.loader.role = some .gauge) : s.dropBytes = List.replicate 21 0#8 := by
  simp [State.dropBytes, hrole]

/-- Settles O58: each field is read at its place in the layout. -/
theorem snapshotHoldsTheStatusRecord : Obligations.SnapshotHoldsTheStatusRecord := by
  intro s
  obtain ⟨hhead, hslot, hperiod, hdrop, hgauge, hflags, hcounters⟩ := s.statusRecord_holds
  refine ⟨s.statusRecord, rfl, rfl, State.statusRecord_length, (hhead.getElem? (i := 0) rfl).trans ?role,
    fun n hid => (hhead.getElem? (i := 1) rfl).trans ?id, (hhead.getElem? (i := 2) rfl).trans ?mode,
    fun hreason => ?reason, (hhead.getElem? (i := 4) rfl).trans ?tracker, fun hnone => ?unsynced,
    fun here hhere hlt => ?slotHere, hperiod.numberOf_take_drop, fun place k hrole hplace => ?cradles,
    fun hrole => ?tying, fun hrole => ?gauge, fun i f hf => ?flags, fun i n hn => ?counters,
    fun i j byte => State.statusDataOut_of_getElem?,
    fun n hn => State.statusDataOut_of_length_le (by rwa [State.statusRecord_length]), fun n => rfl⟩
  case role =>
    match s.loader.role with
    | none | some .gauge | some .drop => rfl
  case id => rw [statusByte, State.stationId, hid, BitVec.ofNat_toNat]
  case mode => cases s.loader.mode <;> rfl
  case reason =>
    rw [hhead.getElem? (i := 3) rfl, Option.map_some, statusByte, BitVec.toNat_ofNat, Nat.mod_eq_of_lt hreason]
  case tracker => cases s.tracker.state <;> rfl
  case unsynced =>
    rw [hnone] at hslot
    exact hslot.numberOf_take_drop (by decide)
  case slotHere =>
    rw [hhere] at hslot
    exact hslot.numberOf_take_drop hlt
  case cradles =>
    obtain ⟨ha, hb, -⟩ := State.dropBytes_holds hrole
    rcases hplace with ⟨rfl, rfl⟩ | ⟨rfl, rfl⟩
    · exact ha.cradle_fields
    · exact hb.cradle_fields
  case tying =>
    obtain ⟨-, -, htie⟩ := State.dropBytes_holds hrole
    rw [State.gaugeBytes_drop hrole] at hgauge
    refine ⟨(htie.getElem? (i := 0) rfl).trans ?_, (htie.getElem? (i := 1) rfl).trans ?_,
      (htie.getElem? (i := 2) rfl).trans ?_, hgauge.take_drop rfl⟩
    · match s.cradles.tieQueue with
      | [] | [.a] | [.b] | .a :: _ :: _ | .b :: _ :: _ => rfl
    · match s.tie.lastCode with
      | none | some .tied | some .rework | some .quit | some .noAck | some .timeout => rfl
    · rw [statusByte, BitVec.ofNat_toNat]
  case gauge =>
    rw [State.dropBytes_gauge hrole] at hdrop
    rw [State.gaugeBytes_gauge hrole] at hgauge
    exact ⟨hdrop.take_drop rfl, hgauge.take_drop rfl⟩
  case flags =>
    have hlt : flagsNumber s.status.flags FlagName.all < 256 ^ 2 := (flagsNumber_lt _ _).trans (by decide)
    rw [hflags.numberOf_take_drop hlt]
    exact testBit_flagsNumber _ hf
  case counters =>
    exact (hcounters.flatMap (fun _ => bytesOf_length _ _) hn).numberOf_take_drop (s.counter n).isLt

end Sys2Proof.Machine
end


section
namespace Sys2Proof.Machine

variable {s : State}

/-! ### The attention flags (R180) -/

/-- R180: an ACK press leaves each set flag whose cause still holds. -/
theorem State.acknowledge_flag (f : FlagName) : s.acknowledge.flag f = (s.flag f && s.causeHolds f) := by
  cases f <;> rfl

theorem FlagName.mem_all (f : FlagName) : f ∈ FlagName.all := by
  cases f <;> decide

/-- R180: ATTN is asserted while any flag is set. -/
theorem State.attention_iff : s.attention = true ↔ ∃ f, s.flag f = true := by
  simp [State.attention, List.any_eq_true, FlagName.mem_all]

theorem State.causeHolds_homeMissing (h : s.loader.record ≠ none) :
    s.causeHolds .homeMissing = decide (s.tracker.homeCount = 2 * s.cfg.chainLength) := by
  cases hrecord : s.loader.record with
  | none => exact absurd hrecord h
  | some cfg => simp [State.causeHolds, State.cfg, hrecord]

theorem exec_ackPress (hs : s.loaded) (hf : s.status.ackFilter.admitsEdge = true) :
    exec .ackPress s = .next s.acknowledge :=
  congrArg Host.Outcome.next (if_pos ⟨hs, hf⟩)

/-! ### The lamps (R181) -/

/-- R181: in drop role each lamp follows its cradle. -/
theorem State.lamp_drop (h : s.dropLoaded) (c : CradleId) :
    (if c = .a then s.lampA else s.lampB) = lampOf s.status.flashLit (s.cradle c).state := by
  cases c with
  | a => exact if_pos h
  | b => exact if_pos h

theorem State.not_dropLoaded_of_gaugeLoaded (h : s.gaugeLoaded) : ¬ s.dropLoaded := by
  obtain ⟨hrole, -⟩ := h
  simp [hrole]

/-- R181: in gauge role LAMP_A shows RUNOUT and LAMP_B is dark. -/
theorem State.lamps_gauge (h : s.gaugeLoaded) : s.lampA = s.flag .runout ∧ s.lampB = false := by
  have hdrop := State.not_dropLoaded_of_gaugeLoaded h
  simp [State.lampA, State.lampB, hdrop, h]

theorem State.lamps_dark (h : ¬ s.loaded) : s.lampA = false ∧ s.lampB = false := by
  simp [State.lampA, State.lampB, State.dropLoaded, State.gaugeLoaded, h]

/-- Settles O59: an ACK press keeps exactly the set flags whose cause holds; ATTN and the lamps read flags, cradles and
flash. -/
theorem ackPressAndLamps : Obligations.AckPressAndLamps := by
  refine ⟨fun s hs hf => ?press, fun s hflash => ?flash, fun s => State.attention_iff,
    fun s => ⟨fun hd c => ?drop, State.lamps_gauge, fun hm => State.lamps_dark (State.not_loaded_iff.mpr hm)⟩⟩
  case press =>
    refine ⟨_, exec_ackPress hs hf, ?_⟩
    simp only [State.acknowledge_flag]
    exact ⟨Bool.and_false _, Bool.and_false _, Bool.and_false _, Bool.and_true _, Bool.and_true _, Bool.and_true _,
      rfl, fun hrecord => by rw [State.causeHolds_homeMissing hrecord], rfl, rfl, rfl, rfl, rfl⟩
  case flash => exact congrArg Host.Outcome.next (if_pos hflash)
  case drop =>
    rw [State.lamp_drop hd]
    cases (s.cradle c).state <;> rfl

end Sys2Proof.Machine
end


section
namespace Sys2Proof.Machine

variable {base : Counters} {s t : State}

/-! ### Counters that stand at given values or higher (R182) -/

/-- Each counter stands where `base` has it, or higher. -/
def State.countedFrom (base : Counters) (s : State) : Prop := ∀ n, base.get n ≤ s.counter n

theorem countedFrom_ite {p : Prop} [Decidable p] {a b : State} (ha : p → a.countedFrom base)
    (hb : ¬ p → b.countedFrom base) : (if p then a else b).countedFrom base := by
  split
  case isTrue hp => exact ha hp
  case isFalse hp => exact hb hp

namespace State.countedFrom

theorem refl (s : State) : s.countedFrom s.status.counters := fun _ => BitVec.le_refl _

theorem of_counters (h : s.countedFrom base) (ht : t.status.counters = s.status.counters) : t.countedFrom base := by
  intro n
  rw [State.counter, ht]
  exact h n

theorem bump (h : s.countedFrom base) (n : CounterName) : (s.bump n).countedFrom base := fun m =>
  BitVec.le_trans (h m) (s.bump_counter_le n m)

/-! ### The transmit queue -/

theorem offer (h : s.countedFrom base) (f : Frame) : (s.offer f).2.countedFrom base := by
  rcases s.offer_cases f with ho | ⟨-, -, ho, -⟩ | ⟨slot, -, -, -, -, ho⟩ | ⟨-, -, -, -, ho⟩ <;> rw [ho]
  · exact h
  · exact h
  · exact bump (s := s.dequeueClaim slot) h .framesDropped
  · exact h.bump .framesDropped

theorem offered (h : s.countedFrom base) (f : Frame) : (s.offered f).countedFrom base := h.offer f

theorem expire (h : s.countedFrom base) (body : FrameBody) : (s.expire body).countedFrom base := h.bump .framesDropped

theorem takeCarrierNotice (h : s.countedFrom base) (here : Slot) : (s.takeCarrierNotice here).countedFrom base :=
  foldl_keeps (State.countedFrom base) _ (fun _ (q : QueuedFrame) ht => ht.expire q.frame.body) _ _ h

/-! ### Cradles -/

variable (c : CradleId)

theorem setCradle (h : s.countedFrom base) (k : Cradle) : (s.setCradle c k).countedFrom base := h.of_counters (by simp)

theorem enterReady (h : s.countedFrom base) : (s.enterReady c).countedFrom base :=
  countedFrom_ite (fun _ => (h.setCradle c _).bump _) fun _ => (h.setCradle c _).bump _

theorem enterEmpty (h : s.countedFrom base) : (s.enterEmpty c).countedFrom base := h.setCradle c _

theorem judgeIdleClose (h : s.countedFrom base) : (s.judgeIdleClose c).countedFrom base :=
  countedFrom_ite (fun _ => h.enterReady c) fun _ => h.setCradle c _

theorem judgeIdleCloseIfReady (h : s.countedFrom base) : (s.judgeIdleCloseIfReady c).countedFrom base :=
  countedFrom_ite (fun _ => h.judgeIdleClose c) fun _ => h

theorem leaveOpen (h : s.countedFrom base) : (s.leaveOpen c).countedFrom base :=
  judgeIdleCloseIfReady c (countedFrom_ite (fun _ => h.of_counters (by simp)) fun _ => h.setCradle c _)

theorem judgeCradle (h : s.countedFrom base) : (s.judgeCradle c).countedFrom base := by
  rcases s.judgeCradle_cases c with hj | hj | hj | hj | hj <;> rw [hj]
  · exact h.enterEmpty c
  · exact h.enterReady c
  · exact h
  · exact h.setCradle c _
  · exact h.leaveOpen c

/-- A count operation is judged from the record it leaves. -/
theorem setCradle_judgeCradle (h : s.countedFrom base) (k : Cradle) :
    ((s.setCradle c k).judgeCradle c).countedFrom base :=
  (h.setCradle c k).judgeCradle c

theorem reserve (h : s.countedFrom base) (cls l : Nat) : (s.reserve c cls l).countedFrom base :=
  h.setCradle_judgeCradle c _

theorem countWin (h : s.countedFrom base) : (s.countWin c).countedFrom base :=
  countedFrom_ite (fun _ => h.setCradle_judgeCradle c _) fun _ => h

theorem countReturn (h : s.countedFrom base) : (s.countReturn c).countedFrom base :=
  countedFrom_ite (fun _ => h.setCradle_judgeCradle c _) fun _ => h

theorem countMiss (h : s.countedFrom base) : (s.countMiss c).countedFrom base :=
  countedFrom_ite (fun _ => h.setCradle_judgeCradle c _) fun _ => h

theorem countPlace (h : s.countedFrom base) : (s.countPlace c).countedFrom base :=
  countedFrom_ite (fun _ => h.setCradle_judgeCradle c _) fun _ => h

theorem countIdle (h : s.countedFrom base) : (s.countIdle c).countedFrom base :=
  countedFrom_ite (fun _ => countedFrom_ite (fun _ => (h.setCradle c _).judgeIdleCloseIfReady c)
    fun _ => h.setCradle c _) fun _ => h

theorem closeCradle (h : s.countedFrom base) : (s.closeCradle c).countedFrom base :=
  countedFrom_ite (fun _ => countedFrom_ite (fun _ => h.enterReady c) fun _ => h.setCradle c _) fun _ =>
    countedFrom_ite (fun _ => h.setCradle c _) fun _ => h

theorem closeCradleOfLot (h : s.countedFrom base) (lotNo : Nat) : (s.closeCradleOfLot lotNo c).countedFrom base := by
  unfold State.closeCradleOfLot
  split
  · exact h
  · exact countedFrom_ite (fun _ => h.closeCradle c) fun _ => h

theorem clearReady (h : s.countedFrom base) : (s.clearReady c).countedFrom base := by
  have hcleared : (((s.leaveTieQueue c).enterEmpty c).bump .voidedBunches).countedFrom base :=
    (enterEmpty (s := s.leaveTieQueue c) c h).bump .voidedBunches
  exact countedFrom_ite (fun _ => hcleared.of_counters (by simp)) fun _ => hcleared

theorem clearBound (h : s.countedFrom base) : (s.clearBound c).countedFrom base :=
  judgeCradle (s := ((s.setCradle c (s.cradle c).voidRecord).bump .voidedBunches).handAll _) c
    ((h.setCradle c _).bump .voidedBunches)

theorem clearCradle (h : s.countedFrom base) : (s.clearCradle c).countedFrom base := by
  unfold State.clearCradle
  split
  case h_1 | h_2 => exact h
  case h_3 => exact h.clearReady c
  case h_4 => exact h.enterEmpty c
  case h_5 => exact h.clearBound c
  case h_6 => exact countedFrom_ite (fun _ => h) fun _ => h.clearBound c

theorem takeTieResult (h : s.countedFrom base) (code : TieCode) : (s.takeTieResult c code).countedFrom base := by
  refine countedFrom_ite (fun _ => ?_) fun _ => h
  cases code <;> exact h.of_counters (by simp)

/-! ### The flight table and the claim engine -/

theorem withdrawNow (h : s.countedFrom base) (slot : Slot) (target : WithdrawalTarget) :
    (s.withdrawNow slot c target).countedFrom base := by
  cases target <;> exact bump (of_counters h rfl) .claimsWithdrawn

/-- R74: a withdrawal carried out is counted, one that waits is not. -/
theorem withdraw (h : s.countedFrom base) (slot : Slot) (w : Withdrawal) : (s.withdraw slot w).countedFrom base := by
  by_cases hs : ∃ e c y a, s.entry? slot = some e ∧ e.state = .tentative c y a
  · obtain ⟨e, c, y, a, he, hs⟩ := hs
    have hasked : (s.requestRemoval (.claim slot c)).2.countedFrom base := h
    rcases s.withdraw_cases slot w he hs with ⟨target, hw⟩ | ⟨-, y', a', hw⟩ <;> rw [hw]
    · exact hasked.withdrawNow c slot target
    · exact h
  · rw [s.withdraw_other slot w fun e he c y a hst => hs ⟨e, c, y, a, he, hst⟩]
    exact h

theorem answerRemoved (h : s.countedFrom base) (slot : Slot) : (s.answerRemoved slot).countedFrom base := by
  rcases s.answerRemoved_cases slot with ha | ⟨e, c, y, w, -, -, ha⟩ <;> rw [ha]
  · exact h
  · exact h.withdrawNow c slot w.target

theorem judgeStem (h : s.countedFrom base) (slot : Slot) (cls lotNo : Nat) :
    (s.judgeStem slot cls lotNo).countedFrom base :=
  countedFrom_ite (fun _ => h) fun _ => countedFrom_ite (fun _ => h) fun _ => countedFrom_ite (fun _ => h) fun _ =>
    countedFrom_ite (fun _ => h.bump _) fun _ => countedFrom_ite (fun _ => h.bump _) fun _ => h

theorem peerClaim (h : s.countedFrom base) (slot : Slot) (sender : Nat) (st : EntryState) :
    (s.peerClaim slot sender st).countedFrom base := by
  cases st with
  | tentative c y a => exact h.withdraw slot _
  | mine _ | other _ => exact h.bump .conflicts
  | unclaimed | yielded | released => exact h

theorem ownClaim (h : s.countedFrom base) (slot : Slot) (st : EntryState) : (s.ownClaim slot st).countedFrom base := by
  cases st with
  | tentative c y a => cases y <;> exact bump (of_counters h rfl) .claimsWon
  | mine _ | other _ | unclaimed | yielded | released => exact h.bump .conflicts

theorem judgeClaim (h : s.countedFrom base) (slot : Slot) (sender : Nat) :
    (s.judgeClaim slot sender).countedFrom base := by
  unfold State.judgeClaim
  split
  · exact h
  · exact countedFrom_ite (fun _ => h.ownClaim slot _) fun _ => h.peerClaim slot sender _

theorem yieldEntry (h : s.countedFrom base) (slot : Slot) (sender : Nat) :
    (s.yieldEntry slot sender).countedFrom base := by
  unfold State.yieldEntry
  split
  · exact h
  · split
    case h_1 => exact countedFrom_ite (fun _ => h) fun _ => h.bump .conflicts
    all_goals exact h

theorem judgeYield (h : s.countedFrom base) (slot : Slot) (sender : Nat) :
    (s.judgeYield slot sender).countedFrom base :=
  yieldEntry (countedFrom_ite (fun _ => h) fun _ => h.bump .yieldsHeard) slot sender

theorem judgeLot (h : s.countedFrom base) (lotNo : Nat) (lastSlot : Slot) :
    (s.judgeLot lotNo lastSlot).countedFrom base :=
  h.of_counters (by simp)

theorem passEvent (h : s.countedFrom base) (period : Ticks) (e : FlightEntry) :
    (s.passEvent period e).countedFrom base := by
  unfold State.passEvent
  split
  case h_2 => exact h.withdraw e.slot _
  all_goals exact h

theorem slipRemoval (h : s.countedFrom base) (e : FlightEntry) : (s.slipRemoval e).countedFrom base := by
  unfold State.slipRemoval
  split
  case h_2 => exact h.withdraw e.slot _
  all_goals exact h

theorem giveBack (h : s.countedFrom base) (reason : YieldReason) (e : FlightEntry) :
    (s.giveBack reason e).countedFrom base := by
  unfold State.giveBack
  split
  case h_1 => exact h.withdraw e.slot _
  all_goals exact h

theorem claimDeadlines (h : s.countedFrom base) (here : Slot) : (s.claimDeadlines here).countedFrom base :=
  foldl_keeps (State.countedFrom base) _ (fun _ e ht => ht.withdraw e.slot _) _ s h

theorem ordinaryArrival (h : s.countedFrom base) (a : Arrival) : (s.ordinaryArrival a).countedFrom base :=
  (foldl_keeps (State.countedFrom base) _ (fun _ e ht => ht.passEvent a.period e) _ s h).claimDeadlines a.slotHere

theorem slipArrival (h : s.countedFrom base) (a : Arrival) : (s.slipArrival a).countedFrom base :=
  (foldl_keeps (State.countedFrom base) _ (fun _ e ht => ht.slipRemoval e) _ s h).claimDeadlines a.slotHere

theorem giveBackAll (h : s.countedFrom base) (reason : YieldReason) : (s.giveBackAll reason).countedFrom base :=
  foldl_keeps (State.countedFrom base) _ (fun _ e ht => ht.giveBack reason e) _ s h

theorem giveBackCradle (h : s.countedFrom base) : (s.giveBackCradle c).countedFrom base :=
  foldl_keeps (State.countedFrom base) _ (fun _ e ht => ht.giveBack .void e) _ s h

theorem takeClaimOutcome (h : s.countedFrom base) (slot : Slot) (outcome : FrameOutcome) :
    (s.takeClaimOutcome slot outcome).countedFrom base := by
  unfold State.takeClaimOutcome
  split
  · exact h
  · split
    case h_1 =>
      cases outcome with
      | sent | dropped | discarded => exact h
      | spoiled | expired | evicted | refused | removed => exact h.withdrawNow _ slot _
    all_goals exact h

/-- R101: a claim counts what its RESERVE, its offer and, refused, its withdrawal count. -/
theorem claim (h : s.countedFrom base) (e : FlightEntry) (service : ServiceEntry) :
    (s.claim e service c).countedFrom base := by
  have hoffered := offer (s := (s.reserve c e.cls e.lot).setEntry e.slot (.tentative c none none))
    (h.reserve c e.cls e.lot) ⟨claimValue service (s.claimCount c) s.stationId, .claim e.slot c⟩
  unfold State.claim
  dsimp only
  split <;> rename_i answer <;> rw [answer] at hoffered
  case h_1 => exact hoffered
  all_goals exact hoffered.withdrawNow c e.slot _

theorem judgeEntry (h : s.countedFrom base) (slot : Slot) : (s.judgeEntry slot).countedFrom base := by
  unfold State.judgeEntry
  split
  · exact h
  · split
    · exact h
    · refine countedFrom_ite (fun _ => ?_) fun _ => h
      split
      · exact h
      · exact countedFrom_ite (fun _ => h.claim _ _ _) fun _ => h

theorem runPass (h : s.countedFrom base) : s.runPass.countedFrom base :=
  foldl_keeps (State.countedFrom base) _ (fun _ slot ht => ht.judgeEntry slot) _ s h

/-! ### The gauge -/

theorem bumpSome (h : s.countedFrom base) (n : Option CounterName) : (s.bumpSome n).countedFrom base := by
  cases n with
  | none => exact h
  | some n => exact h.bump n

theorem issue (h : s.countedFrom base) (slot : Slot) (e : Evaluation) : (s.issue slot e).countedFrom base := by
  cases e with
  | empty => exact h.bump .empties
  | stem cls length reason =>
    exact countedFrom_ite (fun _ => bump (of_counters h rfl) .heldStems) fun _ =>
      offered (bumpSome (s := { s with gauge := { s.gauge with lastStemSlot := some slot } }) h _) _

theorem takePress (h : s.countedFrom base) : s.takePress.countedFrom base := by
  unfold State.takePress
  split
  · exact h
  · exact h.offered _

theorem takePendingPress (h : s.countedFrom base) : s.takePendingPress.countedFrom base :=
  countedFrom_ite (fun _ => h.takePress) fun _ => h

theorem noteResult (h : s.countedFrom base) (r : ScanResult) : (s.noteResult r).countedFrom base := by
  have hlost (g : GaugeUnit) : (({ s with gauge := g } : State).bump .scansLost).countedFrom base :=
    bump (s := { s with gauge := g }) h .scansLost
  exact countedFrom_ite (fun _ => countedFrom_ite (fun _ => hlost _) fun _ => hlost _) fun _ => h

theorem closeMeasure (h : s.countedFrom base) (w : MeasureWindow) : (s.closeMeasure w).countedFrom base :=
  takePendingPress (s := (s.issue w.slot (evaluate s.cfg (w.results.map filledResult))).discardWindow) (h.issue _ _)

theorem closeIfFull (h : s.countedFrom base) : s.closeIfFull.countedFrom base := by
  unfold State.closeIfFull
  split
  · exact h
  · exact countedFrom_ite (fun _ => h.closeMeasure _) fun _ => h

theorem writeResult (h : s.countedFrom base) (position : Nat) (r : ScanResult) :
    (s.writeResult position r).countedFrom base := by
  have hnoted := h.noteResult r
  unfold State.writeResult
  dsimp only
  split
  · exact hnoted
  · exact closeIfFull (of_counters hnoted rfl)

theorem takeScan (h : s.countedFrom base) (ready : Bool) (w : MeasureWindow) :
    (s.takeScan ready w).countedFrom base := by
  unfold State.takeScan
  split
  · exact h
  · exact writeResult (s := s.advanceScan w) h _ _

theorem endScan (h : s.countedFrom base) (position : Option Nat) (r : ScanResult) :
    (s.endScan position r).countedFrom base := by
  cases position with
  | none => exact h
  | some i => exact writeResult (s := s.setPort .idle) h i r

theorem runOut (h : s.countedFrom base) (cls : Option Nat) : (s.runOut cls).countedFrom base :=
  bump (s := { s with gauge := { s.gauge with lastUnserved := some (unservedClass cls) } }) h .unserved

theorem workWatch (h : s.countedFrom base) (here : Slot) : (s.workWatch here).countedFrom base :=
  foldl_keeps (State.countedFrom base) _ (fun _ (e : WatchEntry) ht => ht.runOut e.cls) _ _ h

theorem watchFresh (h : s.countedFrom base) (slot : Slot) (cls : Nat) : (s.watchFresh slot cls).countedFrom base :=
  countedFrom_ite (fun _ => h.bump _) fun _ => countedFrom_ite (fun _ => h) fun _ => h.runOut _

theorem watchYield (h : s.countedFrom base) (slot : Slot) : (s.watchYield slot).countedFrom base :=
  countedFrom_ite (fun _ => h) fun _ => countedFrom_ite (fun _ => h) fun _ => countedFrom_ite (fun _ => h) fun _ =>
    countedFrom_ite (fun _ => h.bump _) fun _ => h

theorem noteCut (h : s.countedFrom base) (results : List (Option ScanResult)) : (s.noteCut results).countedFrom base :=
  foldl_keeps (State.countedFrom base) _
    (fun _ _ ht => countedFrom_ite (fun _ => ht.noteResult .lost) fun _ => ht) _ s h

theorem cutWindow (h : s.countedFrom base) : s.cutWindow.countedFrom base := by
  unfold State.cutWindow
  split
  · exact h
  · next w _ =>
    exact closeMeasure (s := (s.noteCut w.results).setPort (orphanScan s.gauge.port)) (h.noteCut w.results) w

theorem pressLot (h : s.countedFrom base) : s.pressLot.countedFrom base := by
  unfold State.pressLot
  split
  · exact h
  · exact h.takePress

/-! ### The line -/

theorem countDiscard (h : s.countedFrom base) : s.countDiscard.countedFrom base :=
  countedFrom_ite (fun _ => h) fun _ => h.bump .receiveErrors

theorem answerLeft (h : s.countedFrom base) (answer : RemovalAnswer) (body : FrameBody) :
    (s.answerLeft answer body).countedFrom base := by
  have hheld : (s.answerHeld answer).countedFrom base := h.of_counters (by simp)
  unfold State.answerLeft
  split
  · exact hheld.answerRemoved _
  · exact hheld

theorem loseContention (h : s.countedFrom base) : s.loseContention.countedFrom base := by
  unfold State.loseContention
  split
  · exact h
  · split
    · exact h
    · exact answerLeft (expire (s := s.leaveContended) h _) _ _
    · exact answerLeft (s := s.leaveContended.hand _) h _ _

theorem answerSending (h : s.countedFrom base) (body : FrameBody) : (s.answerSending body).countedFrom base :=
  h.of_counters (by simp)

theorem spoilFrame (h : s.countedFrom base) (body : FrameBody) : (s.spoilFrame body).countedFrom base := by
  intro n
  rw [State.spoilFrame_counter]
  exact h.bump .spoiledTransmissions n

theorem spoilSending (h : s.countedFrom base) : s.spoilSending.countedFrom base := by
  unfold State.spoilSending
  dsimp only
  split
  · exact h
  · exact spoilFrame (s := { s with bus := { s.bus with sending := none } }) h _

theorem acceptFrame (h : s.countedFrom base) (f : Frame) : (s.acceptFrame f).countedFrom base :=
  countedFrom_ite (fun _ => countedFrom_ite (fun _ => h) fun _ => h.bump .foreignFrames) fun _ => h

/-- R25: a heard frame is counted, and its content's failing too. -/
theorem hearFrame (h : s.countedFrom base) (own : Bool) (f : Frame) : (s.hearFrame own f).countedFrom base := by
  have hheard := h.bump .framesHeard
  exact countedFrom_ite (fun _ => hheard) fun _ => countedFrom_ite (fun _ => hheard) fun _ =>
    countedFrom_ite (fun _ => hheard) fun _ => countedFrom_ite (fun _ => hheard.bump .receiveErrors) fun _ =>
      hheard.acceptFrame f

/-! ### The release unit -/

theorem skipRelease (h : s.countedFrom base) (slot : Slot) : (s.skipRelease slot c).countedFrom base :=
  bump (s := s.giveUp slot c .skip) h .skips

theorem missRecord (h : s.countedFrom base) (r : ReleaseRecord) : (s.missRecord r).countedFrom base :=
  countedFrom_ite (fun _ => h) fun _ => bump (s := s.giveUp r.slot r.cradle .miss) h .misses

theorem closeWindow (h : s.countedFrom base) (w : ConfirmationWindow) : (s.closeWindow w).countedFrom base := by
  unfold State.closeWindow
  dsimp only
  split
  · exact h
  · exact missRecord (s := { s with release := { s.release with window := none } }) h _

theorem closeOpenWindow (h : s.countedFrom base) : s.closeOpenWindow.countedFrom base := by
  unfold State.closeOpenWindow
  split
  · exact h
  · exact h.closeWindow _

theorem judgeFlap (h : s.countedFrom base) : s.judgeFlap.countedFrom base := h.of_counters (by simp)

theorem cancelCleared (h : s.countedFrom base) : (s.cancelCleared c).countedFrom base := by
  unfold State.cancelCleared
  split
  · exact h
  · exact countedFrom_ite (fun _ => h) fun _ => h

theorem makeRecord (h : s.countedFrom base) (slot : Slot) (period : Ticks) :
    (s.makeRecord slot c period).countedFrom base :=
  countedFrom_ite (fun _ => judgeFlap (of_counters h rfl)) fun _ => h.skipRelease c slot

theorem carrierStep (h : s.countedFrom base) (slip : Bool) : (s.carrierStep slip).countedFrom base := by
  have hcut : s.cutPulse.countedFrom base :=
    countedFrom_ite (fun _ => bump (s := s.endPulse) h .shortReleases) fun _ => h
  unfold State.carrierStep State.dropOvertaken
  split
  · exact hcut
  · exact countedFrom_ite (fun _ => hcut) fun _ => skipRelease (s := s.cutPulse.dropDelay) _ hcut _

theorem stepOnce (h : s.countedFrom base) (here : Slot) : (s.stepOnce here).countedFrom base :=
  countedFrom_ite (fun _ => h) fun _ => h.carrierStep false

theorem startPulse (h : s.countedFrom base) (r : ReleaseRecord) : (s.startPulse r).countedFrom base :=
  of_counters h.closeOpenWindow.judgeFlap rfl

theorem judgeEdge (h : s.countedFrom base) : s.judgeEdge.countedFrom base := by
  unfold State.judgeEdge
  split
  · exact h.bump .strays
  · next w _ =>
    refine countedFrom_ite (fun _ => ?_) fun _ => bump (s := s.setWindow { w with edges := 2 }) h .doubles
    split
    · exact countedFrom_ite (fun _ => h.bump .strays) fun _ =>
        bump (s := (s.setWindow { w with edges := 1, record := none }).hand (.place w.cradle)) h .releases
    · exact h

theorem takeHandover (h : s.countedFrom base) (slot : Slot) (period : Ticks) :
    (s.takeHandover slot c period).countedFrom base := by
  have hstepped := h.stepOnce slot
  exact countedFrom_ite (fun _ => hstepped) fun _ => countedFrom_ite (fun _ => hstepped) fun _ =>
    hstepped.makeRecord c slot period

/-! ### The tie port and the tracker -/

theorem judgeTieStart (h : s.countedFrom base) : s.judgeTieStart.countedFrom base := h.of_counters (by simp)

theorem endTie (h : s.countedFrom base) (code : TieCode) : (s.endTie code).countedFrom base := by
  unfold State.endTie
  dsimp only
  refine judgeTieStart ?_
  split <;> exact bump (of_counters h rfl) (tieCounter code)

theorem takeStatusWord (h : s.countedFrom base) (word : Word16) : (s.takeStatusWord word).countedFrom base :=
  have hread : ({ s with tie := { s.tie with lastFault := tierFault word } } : State).countedFrom base := h
  endTie (countedFrom_ite (fun _ => hread.bump .countMismatches) fun _ => hread) _

theorem setFilter (h : s.countedFrom base) (input : FilteredInput) (f : Filter) :
    (s.setFilter input f).countedFrom base := by
  cases input <;> exact h

theorem countGlitch (h : s.countedFrom base) (input : FilteredInput) : (s.countGlitch input).countedFrom base :=
  countedFrom_ite (fun _ => h.bump .glitches) fun _ => h

theorem countNumbering (h : s.countedFrom base) (home : Bool) : (s.countNumbering home).countedFrom base :=
  countedFrom_ite (fun _ => h.bump .slips) fun _ => countedFrom_ite (fun _ => h.bump .homeMissed) fun _ => h

theorem acceptPulse (h : s.countedFrom base) (home : Bool) : (s.acceptPulse home).countedFrom base := fun n => by
  rw [State.acceptPulse_counter]
  exact h.countNumbering home n

theorem judgePulse (h : s.countedFrom base) (home : Bool) : (s.judgePulse home).countedFrom base :=
  countedFrom_ite (fun _ => h.bump .earlyPulses) fun _ => h.acceptPulse home

/-! ### The loader -/

theorem missAcknowledge (h : s.countedFrom base) : s.missAcknowledge.countedFrom base := by
  unfold State.missAcknowledge
  split
  case h_1 => exact countedFrom_ite (fun _ => h) fun _ => h
  all_goals exact h

theorem retryRead (h : s.countedFrom base) : s.retryRead.countedFrom base := by
  unfold State.retryRead
  split <;> exact h

theorem takeModeNotice (h : s.countedFrom base) (block : Block) (held : Bool) :
    (s.takeModeNotice block held).countedFrom base := by
  cases block with
  | tiePort => exact judgeTieStart (s := { s with tie := { s.tie with held := held } }) h
  | cradleManager | releaseUnit | lineBus | gaugeUnit | flightTable | claimEngine => exact h

theorem takeHaltNotice (h : s.countedFrom base) (block : Block) (held : Bool) :
    (s.takeHaltNotice block held).countedFrom base := by
  cases block with
  | lineBus | claimEngine => exact h
  | gaugeUnit | flightTable | cradleManager | releaseUnit | tiePort => exact countedFrom_ite (fun _ => h) fun _ => h

theorem judgeRecord (h : s.countedFrom base) (role : Role) (record : List Byte) :
    (s.judgeRecord role record).countedFrom base := by
  refine countedFrom_ite (fun _ => offered ?_ _) fun _ => h
  cases role <;> exact h

theorem endRead (h : s.countedFrom base) (bytes : List Byte) : (s.endRead bytes).countedFrom base := by
  unfold State.endRead
  split
  case h_1 => exact h.judgeRecord _ _
  all_goals exact h

end State.countedFrom

/-! ### No command lowers a counter (R182) -/

section
open State.countedFrom

theorem execContentionDriveFailed_countedFrom (h : s.countedFrom base) :
    ∃ t, execContentionDriveFailed s = .next t ∧ t.countedFrom base := by
  refine ⟨_, rfl, countedFrom_ite (fun _ => ?_) fun _ => h⟩
  split
  · exact h
  · exact spoilFrame (answerSending (s := (s.beginReceiving false).leaveContended) h _) _

theorem execContentionWon_countedFrom (h : s.countedFrom base) :
    ∃ t, execContentionWon s = .next t ∧ t.countedFrom base := by
  refine ⟨_, rfl, countedFrom_ite (fun _ => ?_) fun _ => h⟩
  split
  · exact h
  · exact h.of_counters (by simp)

theorem execFrameSent_countedFrom (h : s.countedFrom base) :
    ∃ t, execFrameSent s = .next t ∧ t.countedFrom base := by
  refine ⟨_, rfl, countedFrom_ite (fun _ => ?_) fun _ => h⟩
  dsimp only
  split
  · exact h
  · refine hearFrame (of_counters (h.bump .framesSent) ?_) true _
    rfl

theorem execFrameHeard_countedFrom (h : s.countedFrom base) (chars : List Byte) :
    ∃ t, execFrameHeard chars s = .next t ∧ t.countedFrom base := by
  refine ⟨_, rfl, countedFrom_ite (fun _ => ?_) fun _ => h⟩
  split
  · exact h.countDiscard
  · exact hearFrame (s := s.lineState .waitGap 0) h false _

theorem execStuckEntry_countedFrom (h : s.countedFrom base) :
    ∃ t, execStuckEntry s = .next t ∧ t.countedFrom base := by
  refine ⟨_, rfl, ?_⟩
  split
  case h_3 => exact loseContention (s := s.lineState .stuck 0) h
  case h_4 => exact h.spoilSending
  all_goals exact h

theorem execRemovalRequest_countedFrom (h : s.countedFrom base) (body : FrameBody) :
    ∃ t, execRemovalRequest body s = .next t ∧ t.countedFrom base := by
  refine ⟨_, rfl, countedFrom_ite (fun _ => ?_) fun _ => h⟩
  have hasked : ((s.taken (.removalRequest body)).requestRemoval body).2.countedFrom base := h
  split <;> next answer => rw [answer] at hasked; exact hasked

theorem execScanDue_countedFrom (h : s.countedFrom base) (ready : Bool) :
    ∃ t, execScanDue ready s = .next t ∧ t.countedFrom base := by
  refine ⟨_, rfl, countedFrom_ite (fun _ => ?_) fun _ => h⟩
  split
  · exact h
  · exact countedFrom_ite (fun _ => h.takeScan ready _) fun _ => h

theorem execDelayExpiry_countedFrom (h : s.countedFrom base) :
    ∃ t, execDelayExpiry s = .next t ∧ t.countedFrom base := by
  refine ⟨_, rfl, countedFrom_ite (fun _ => ?_) fun _ => h⟩
  split
  · exact h
  · exact countedFrom_ite (fun _ => h.startPulse _) fun _ => skipRelease (s := s.dropDelay) _ h _

theorem execTdoneEdge_countedFrom (h : s.countedFrom base) :
    ∃ t, execTdoneEdge s = .next t ∧ t.countedFrom base := by
  refine ⟨_, rfl, countedFrom_ite (fun _ => ?_) fun _ => h⟩
  split
  case h_1 => exact countedFrom_ite (fun _ => h.bump .lateDone) fun _ => h
  case h_2 => exact h
  all_goals exact h.bump .lateDone

/-- R182: every command but RESET. -/
theorem exec_countedFrom {i : Instr} (hi : i ≠ .reset) (h : s.countedFrom base) :
    ∃ t, exec i s = .next t ∧ t.countedFrom base := by
  have htaken (j : Instr) : (s.taken j).countedFrom base := h
  cases i with
  | reset => exact absurd rfl hi
  -- the loader and the inputs
  | recordReadComplete bytes => exact ⟨_, rfl, countedFrom_ite (fun _ => h.endRead bytes) fun _ => h⟩
  | memoryNoAcknowledge => exact ⟨_, rfl, countedFrom_ite (fun _ => h.missAcknowledge) fun _ => h⟩
  | retryWaitExpiry => exact ⟨_, rfl, countedFrom_ite (fun _ => h.retryRead) fun _ => h⟩
  | announceTimerExpiry | resetRelease _ _ | holdLevelChange _ | stall =>
    exact ⟨_, rfl, countedFrom_ite (fun _ => h) fun _ => h⟩
  | helloOutcome _ => exact ⟨_, rfl, h⟩
  | modeNotice block held =>
    exact ⟨_, rfl, countedFrom_ite (fun _ => (htaken _).takeModeNotice block held) fun _ => h⟩
  | haltNotice block held =>
    exact ⟨_, rfl, countedFrom_ite (fun _ => (htaken _).takeHaltNotice block held) fun _ => h⟩
  | filterInputAsserted input => exact ⟨_, rfl, setFilter (s := s.setPin input true) h input _⟩
  | filterInputReleased input =>
    exact ⟨_, rfl, setFilter (s := (s.countGlitch input).setPin input false) (h.countGlitch input) input _⟩
  | cpQualification home =>
    exact ⟨_, rfl, countedFrom_ite (fun _ => judgePulse (s := s.setFilter .cp .held) h home) fun _ => h⟩
  | filteredGateEdge =>
    exact ⟨_, rfl, countedFrom_ite (fun _ => countedFrom_ite (fun _ => judgeEdge (s := s.setGateFilter .held) h)
      fun _ => h) fun _ => h⟩
  -- the line and its queue
  | contentionLost =>
    exact ⟨_, rfl, countedFrom_ite (fun _ => loseContention (s := s.beginReceiving false) h) fun _ => h⟩
  | contentionDriveFailed => exact execContentionDriveFailed_countedFrom h
  | contentionWon => exact execContentionWon_countedFrom h
  | spoil => exact ⟨_, rfl, countedFrom_ite (fun _ => h.spoilSending) fun _ => h⟩
  | frameSent => exact execFrameSent_countedFrom h
  | frameHeard chars => exact execFrameHeard_countedFrom h chars
  | frameDiscarded cause =>
    exact ⟨_, rfl, countedFrom_ite (fun _ => loseContention (s := s.countDiscard.lineState .waitGap _) h.countDiscard)
      fun _ => h⟩
  | stuckEntry => exact execStuckEntry_countedFrom h
  | carrierNotice here => exact ⟨_, rfl, countedFrom_ite (fun _ => (htaken _).takeCarrierNotice here) fun _ => h⟩
  | removalRequest body => exact execRemovalRequest_countedFrom h body
  | idleGapComplete | dominantLevelInWaitGap | contentionWindow | stuckExit =>
    exact ⟨_, rfl, h.of_counters (by (repeat' split) <;> simp)⟩
  -- the gauge
  | gaugeCarrierArrival a =>
    exact ⟨_, rfl, countedFrom_ite (fun _ => (htaken _).cutWindow.workWatch a.slotHere)
      fun _ => countedFrom_ite (fun _ => h) fun _ => h⟩
  | scanDue ready => exact execScanDue_countedFrom h ready
  | srdyAsserted => exact ⟨_, rfl, h.of_counters (by (repeat' split) <;> simp)⟩
  | scanRecordComplete _ | responseLimitExpiry =>
    refine ⟨_, rfl, countedFrom_ite (fun _ => ?_) fun _ => h⟩
    split
    · exact h
    · exact h.endScan _ _
  | lotPress =>
    exact ⟨_, rfl, countedFrom_ite (fun _ => countedFrom_ite (fun _ => pressLot (s := s.setLotFilter .held) h)
      fun _ => h) fun _ => h⟩
  | gaugeStemHeard slot cls =>
    exact ⟨_, rfl, countedFrom_ite (fun _ => watchFresh (s := (s.taken _).unwatch slot) h slot cls) fun _ => h⟩
  | gaugeClaimHeard _ => exact ⟨_, rfl, countedFrom_ite (fun _ => h) fun _ => h⟩
  | gaugeYieldHeard slot => exact ⟨_, rfl, countedFrom_ite (fun _ => (htaken _).watchYield slot) fun _ => h⟩
  | stemOutcome _ _ | yieldOutcome _ _ _ => exact ⟨_, rfl, countedFrom_ite (fun _ => (htaken _).bump _) fun _ => h⟩
  | lotOutcome _ _ _ | yieldRequest _ _ =>
    exact ⟨_, rfl, countedFrom_ite (fun _ => (htaken _).offered _) fun _ => h⟩
  -- the flight table and the claim engine
  | flightTableStem slot cls lotNo => exact ⟨_, rfl, (htaken _).judgeStem slot cls lotNo⟩
  | flightTableClaim _ _ _ => exact ⟨_, rfl, countedFrom_ite (fun _ => (htaken _).judgeClaim _ _) fun _ => h⟩
  | flightTableYield _ _ _ => exact ⟨_, rfl, countedFrom_ite (fun _ => (htaken _).judgeYield _ _) fun _ => h⟩
  | flightTableLot _ _ => exact ⟨_, rfl, countedFrom_ite (fun _ => (htaken _).judgeLot _ _) fun _ => h⟩
  | flightTableCarrierArrival a =>
    exact ⟨_, rfl, countedFrom_ite (fun _ => countedFrom_ite (fun _ => (htaken _).slipArrival a)
      fun _ => (htaken _).ordinaryArrival a) fun _ => h⟩
  | clearNoticeFlightTable c => exact ⟨_, rfl, countedFrom_ite (fun _ => (htaken _).giveBackCradle c) fun _ => h⟩
  | claimOutcome _ _ => exact ⟨_, rfl, countedFrom_ite (fun _ => (htaken _).takeClaimOutcome _ _) fun _ => h⟩
  | claimEngineCarrierArrival _ =>
    exact ⟨_, rfl, countedFrom_ite (fun _ => h) fun _ => countedFrom_ite (fun _ => h) fun _ => h⟩
  | passRequest => exact ⟨_, rfl, countedFrom_ite (fun _ => (htaken _).runPass) fun _ => h⟩
  | holdAssertion =>
    exact ⟨_, rfl, countedFrom_ite (fun _ => countedFrom_ite
      (fun _ => giveBackAll (s := (s.takeHold true).handAll (holdNotices true)) h .hold) fun _ => h) fun _ => h⟩
  | holdRelease => exact ⟨_, rfl, countedFrom_ite (fun _ => countedFrom_ite (fun _ => h) fun _ => h) fun _ => h⟩
  -- the cradles
  | win c => exact ⟨_, rfl, countedFrom_ite (fun _ => (htaken _).countWin c) fun _ => h⟩
  | returnCount c => exact ⟨_, rfl, countedFrom_ite (fun _ => (htaken _).countReturn c) fun _ => h⟩
  | miss c => exact ⟨_, rfl, countedFrom_ite (fun _ => (htaken _).countMiss c) fun _ => h⟩
  | place c => exact ⟨_, rfl, countedFrom_ite (fun _ => (htaken _).countPlace c) fun _ => h⟩
  | cradleCarrierArrival _ =>
    exact ⟨_, rfl, countedFrom_ite (fun _ => ((htaken _).countIdle .a).countIdle .b) fun _ => h⟩
  | closeLot lotNo =>
    exact ⟨_, rfl, countedFrom_ite (fun _ => ((htaken _).closeCradleOfLot .a lotNo).closeCradleOfLot .b lotNo)
      fun _ => h⟩
  | holdNoticeCradle held =>
    have hheld : ({ s.taken (.holdNoticeCradle held) with cradles := { s.cradles with held := held } }
      : State).countedFrom base := h
    exact ⟨_, rfl, countedFrom_ite (fun _ => countedFrom_ite (fun _ => hheld)
      fun _ => (hheld.judgeIdleCloseIfReady .a).judgeIdleCloseIfReady .b) fun _ => h⟩
  | clear c =>
    have hfilter : (s.setClearFilter c .held).countedFrom base := h.of_counters (by simp)
    exact ⟨_, rfl, countedFrom_ite (fun _ => hfilter.clearCradle c) fun _ => h⟩
  | tieResult c code => exact ⟨_, rfl, countedFrom_ite (fun _ => (htaken _).takeTieResult c code) fun _ => h⟩
  | uncertainMark c => exact ⟨_, rfl, countedFrom_ite (fun _ => (htaken _).setCradle c _) fun _ => h⟩
  -- the release unit
  | releaseHandover slot c period =>
    exact ⟨_, rfl, countedFrom_ite (fun _ => (htaken _).takeHandover c slot period)
      fun _ => countedFrom_ite (fun _ => h) fun _ => h⟩
  | releaseCarrierStep a =>
    exact ⟨_, rfl, countedFrom_ite (fun _ => countedFrom_ite (fun _ => (htaken _).carrierStep true)
      fun _ => (htaken _).stepOnce a.slotHere) fun _ => h⟩
  | flapSettleExpiry | pulseEndExpiry => exact ⟨_, rfl, countedFrom_ite (fun _ => h) fun _ => h⟩
  | delayExpiry => exact execDelayExpiry_countedFrom h
  | confirmationWindowExpiry =>
    refine ⟨_, rfl, countedFrom_ite (fun _ => ?_) fun _ => h⟩
    split
    · exact h
    · exact (h.closeWindow _).judgeFlap
  | holdNoticeReleaseUnit _ =>
    refine ⟨_, rfl, countedFrom_ite (fun _ => countedFrom_ite (fun _ => ?_) fun _ => h) fun _ => h⟩
    split <;> exact h
  | clearNoticeRelease c =>
    exact ⟨_, rfl, countedFrom_ite (fun _ => cancelCleared (s := { s.taken (.clearNoticeRelease c) with
      release := { s.release with window := s.release.window.map (markCleared c) } }) c h) fun _ => h⟩
  -- the tie port
  | queueNotice => exact ⟨_, rfl, (htaken _).judgeTieStart⟩
  | holdNoticeTiePort held =>
    exact ⟨_, rfl, countedFrom_ite (fun _ => countedFrom_ite (fun _ => h) fun _ => judgeTieStart
      (s := { s.taken (.holdNoticeTiePort held) with tie := { s.tie with held := held } }) h) fun _ => h⟩
  | recordShifted => exact ⟨_, rfl, h.of_counters (by simp)⟩
  | tackEdge => exact ⟨_, rfl, h.of_counters (by (repeat' split) <;> simp)⟩
  | tdoneEdge => exact execTdoneEdge_countedFrom h
  | ackLimitExpiry =>
    exact ⟨_, rfl, countedFrom_ite (fun _ => countedFrom_ite (fun _ => h) fun _ => h.endTie .noAck) fun _ => h⟩
  | tieLimitExpiry => exact ⟨_, rfl, countedFrom_ite (fun _ => h.endTie .timeout) fun _ => h⟩
  | statusWordComplete word => exact ⟨_, rfl, countedFrom_ite (fun _ => h.takeStatusWord word) fun _ => h⟩
  -- the status port
  | snapshot | sselRelease => exact ⟨_, rfl, h⟩
  | ackPress | lampFlashToggle => exact ⟨_, rfl, countedFrom_ite (fun _ => h) fun _ => h⟩

end

/-- Settles O60: a command moves the counters by counting only, and a count lowers none. -/
theorem countersNeverFall : Obligations.CountersNeverFall := by
  intro i s t n hi hexec
  obtain ⟨u, hu, hcounted⟩ := exec_countedFrom hi (State.countedFrom.refl s)
  cases hexec.symm.trans hu
  exact hcounted n

end Sys2Proof.Machine
end

section
/-! SUPPORT. Proofs of the statements on commands and the queue of waiting commands: every operation leaves the queue
alone, every command answers a next state, and the step executes the command at the queue's front. -/

namespace Sys2Proof.Machine

variable {s t : State}

/-! ### The queue of commands under the operations that walk a list -/

/-- A walk whose every stride leaves the waiting commands leaves them. -/
theorem foldl_pending {α : Type} (f : State → α → State) (hf : ∀ t a, (f t a).pending = t.pending) (l : List α)
    (s : State) : (l.foldl f s).pending = s.pending :=
  foldl_keeps (fun t => t.pending = s.pending) f (fun t a h => (hf t a).trans h) l s rfl

@[simp] theorem State.takeCarrierNotice_pending (here : Slot) : (s.takeCarrierNotice here).pending = s.pending :=
  foldl_pending _ (by simp) _ _

@[simp] theorem State.claimDeadlines_pending (here : Slot) : (s.claimDeadlines here).pending = s.pending :=
  foldl_pending _ (by simp) _ _

@[simp] theorem State.ordinaryArrival_pending (a : Arrival) : (s.ordinaryArrival a).pending = s.pending := by
  simp [State.ordinaryArrival, foldl_pending]

@[simp] theorem State.slipArrival_pending (a : Arrival) : (s.slipArrival a).pending = s.pending := by
  simp [State.slipArrival, State.replace, foldl_pending]

@[simp] theorem State.giveBackAll_pending (reason : YieldReason) : (s.giveBackAll reason).pending = s.pending :=
  foldl_pending _ (by simp) _ _

@[simp] theorem State.giveBackCradle_pending (c : CradleId) : (s.giveBackCradle c).pending = s.pending :=
  foldl_pending _ (by simp) _ _

@[simp] theorem State.workWatch_pending (here : Slot) : (s.workWatch here).pending = s.pending :=
  foldl_pending _ (by simp) _ _

@[simp] theorem State.noteCut_pending (results : List (Option ScanResult)) : (s.noteCut results).pending = s.pending :=
  foldl_pending _ (fun t r => by split <;> simp) _ _

@[simp] theorem State.cutWindow_pending : s.cutWindow.pending = s.pending := by
  unfold State.cutWindow
  split <;> simp

@[simp] theorem State.openMeasure_pending (a : Arrival) : (s.openMeasure a).pending = s.pending := rfl

/-! ### The queue of commands under a candidacy pass -/

theorem State.pending_of_offer {f : Frame} {answer : OfferAnswer} (h : s.offer f = (answer, t)) :
    t.pending = s.pending := by
  obtain ⟨-, -, -, -, -, -, -, -, -, -, hpending⟩ := s.offer_frame f
  rwa [h] at hpending

@[simp] theorem State.claim_pending (e : FlightEntry) (service : ServiceEntry) (c : CradleId) :
    (s.claim e service c).pending = s.pending := by
  unfold State.claim
  dsimp only
  split <;> next answer => simp [State.pending_of_offer answer]

@[simp] theorem State.judgeEntry_pending (slot : Slot) : (s.judgeEntry slot).pending = s.pending := by
  unfold State.judgeEntry
  (repeat' split) <;> simp

@[simp] theorem State.runPass_pending : s.runPass.pending = s.pending := foldl_pending _ (by simp) _ _

/-! ### The queue of commands under the loader and its notices -/

@[simp] theorem State.missAcknowledge_pending : s.missAcknowledge.pending = s.pending := by
  unfold State.missAcknowledge State.failCheck
  (repeat' split) <;> simp

@[simp] theorem State.retryRead_pending : s.retryRead.pending = s.pending := by
  unfold State.retryRead
  split <;> simp

/-- R172: a record taken into use goes to the blocks of its role. -/
@[simp] theorem State.takeRecord_pending (role : Role) (cfg : StationConfig) :
    (s.takeRecord role cfg).pending = s.pending := by
  cases role <;> simp [State.takeRecord] <;> rfl

@[simp] theorem State.judgeRecord_pending (role : Role) (record : List Byte) :
    (s.judgeRecord role record).pending = s.pending := by
  simp [State.judgeRecord, State.failCheck]

@[simp] theorem State.endRead_pending (bytes : List Byte) : (s.endRead bytes).pending = s.pending := by
  unfold State.endRead
  split <;> simp

@[simp] theorem State.takeModeNotice_pending (block : Block) (held : Bool) :
    (s.takeModeNotice block held).pending = s.pending := by
  cases block <;> simp [State.takeModeNotice]

@[simp] theorem State.takeHaltNotice_pending (block : Block) (held : Bool) :
    (s.takeHaltNotice block held).pending = s.pending := by
  cases block <;> simp [State.takeHaltNotice]

/-! ### The queue of commands under the removal requests and the clear notices -/

theorem State.pending_of_requestRemoval {b : FrameBody} {answer : RemovalAnswer} (h : s.requestRemoval b = (answer, t)) :
    t.pending = s.pending := by
  obtain ⟨-, -, -, -, -, -, -, -, -, -, -, -, hpending⟩ := s.requestRemoval_frame b
  rwa [h] at hpending

@[simp] theorem State.cancelCleared_pending (c : CradleId) : (s.cancelCleared c).pending = s.pending := by
  unfold State.cancelCleared
  (repeat' split) <;> simp

end Sys2Proof.Machine
end

section
namespace Sys2Proof.Machine

variable {s : State}

/-! ### Every command answers a next state -/

/-- A guarded operation leaves the waiting commands when both of its branches do. -/
theorem pending_ite {p : Prop} [Decidable p] {a b : State} {waiting : List Instr} (ha : a.pending = waiting)
    (hb : b.pending = waiting) : (if p then a else b).pending = waiting := by
  rw [State.ite_pending, ha, hb, ite_self]

/-- Every arm of the dispatch is a next state. A meaning asks its guard, then acts on the blocks by operations that leave
the waiting commands; where the guard fails, at most the command's own hand-over has been taken. RESET keeps the waiting
commands by its definition (log 8). -/
theorem exec_next_pending (c : Instr) : ∃ t, exec c s = .next t ∧ t.pending = s.pending := by
  cases c with
  -- the loader
  | reset | helloOutcome _ => exact ⟨_, rfl, rfl⟩
  | memoryNoAcknowledge | retryWaitExpiry | recordReadComplete _ | announceTimerExpiry | modeNotice _ _
  | haltNotice _ _ => exact ⟨_, rfl, pending_ite (by simp) rfl⟩
  | resetRelease _ _ => exact ⟨_, rfl, pending_ite rfl rfl⟩
  -- inputs and the tracker
  | filterInputAsserted _ | filterInputReleased _ => exact ⟨_, rfl, by simp⟩
  | cpQualification _ | stall => exact ⟨_, rfl, pending_ite (by simp) rfl⟩
  | filteredGateEdge => exact ⟨_, rfl, pending_ite (pending_ite (by simp) rfl) rfl⟩
  | holdLevelChange _ => exact ⟨_, rfl, pending_ite rfl rfl⟩
  -- the line and its queue
  | idleGapComplete | dominantLevelInWaitGap | contentionLost | spoil | frameDiscarded _ | stuckExit
  | carrierNotice _ => exact ⟨_, rfl, pending_ite (by simp) rfl⟩
  | contentionWindow | contentionDriveFailed | contentionWon | frameHeard _ =>
    exact ⟨_, rfl, pending_ite (by split <;> simp) rfl⟩
  | frameSent => exact ⟨_, rfl, pending_ite (by dsimp only; split <;> simp) rfl⟩
  | stuckEntry => exact ⟨_, rfl, by split <;> simp⟩
  | removalRequest _ =>
    exact ⟨_, rfl, pending_ite (by split <;> next answer => simp [State.pending_of_requestRemoval answer]) rfl⟩
  -- the gauge
  | gaugeCarrierArrival _ => exact ⟨_, rfl, pending_ite (by simp) (pending_ite rfl rfl)⟩
  | scanDue _ | srdyAsserted | scanRecordComplete _ | responseLimitExpiry =>
    exact ⟨_, rfl, pending_ite (by split <;> simp) rfl⟩
  | lotPress => exact ⟨_, rfl, pending_ite (pending_ite (by simp) rfl) rfl⟩
  | gaugeStemHeard _ _ | gaugeClaimHeard _ | gaugeYieldHeard _ | stemOutcome _ _ | lotOutcome _ _ _ =>
    exact ⟨_, rfl, pending_ite (by simp) rfl⟩
  -- the flight table and the claim engine
  | flightTableStem _ _ _ => exact ⟨_, rfl, by simp⟩
  | flightTableClaim _ _ _ | flightTableYield _ _ _ | flightTableLot _ _ | clearNoticeFlightTable _ | claimOutcome _ _
  | passRequest | yieldRequest _ _ | yieldOutcome _ _ _ => exact ⟨_, rfl, pending_ite (by simp) rfl⟩
  | flightTableCarrierArrival _ => exact ⟨_, rfl, pending_ite (pending_ite (by simp) (by simp)) rfl⟩
  | claimEngineCarrierArrival _ => exact ⟨_, rfl, pending_ite rfl (pending_ite rfl rfl)⟩
  | holdAssertion | holdRelease => exact ⟨_, rfl, pending_ite (pending_ite (by simp) rfl) rfl⟩
  -- the cradles
  | win _ | returnCount _ | miss _ | place _ | cradleCarrierArrival _ | closeLot _ | clear _ | tieResult _ _
  | uncertainMark _ => exact ⟨_, rfl, pending_ite (by simp) rfl⟩
  | holdNoticeCradle _ => exact ⟨_, rfl, pending_ite (pending_ite rfl (by simp)) rfl⟩
  -- the release unit
  | releaseHandover _ _ _ => exact ⟨_, rfl, pending_ite (by simp) (pending_ite rfl rfl)⟩
  | releaseCarrierStep _ => exact ⟨_, rfl, pending_ite (pending_ite (by simp) (by simp)) rfl⟩
  | flapSettleExpiry | pulseEndExpiry | clearNoticeRelease _ => exact ⟨_, rfl, pending_ite (by simp) rfl⟩
  | delayExpiry | confirmationWindowExpiry => exact ⟨_, rfl, pending_ite (by split <;> simp) rfl⟩
  | holdNoticeReleaseUnit _ => exact ⟨_, rfl, pending_ite (pending_ite (by dsimp only; split <;> simp) rfl) rfl⟩
  -- the tie port
  | queueNotice => exact ⟨_, rfl, by simp⟩
  | holdNoticeTiePort _ => exact ⟨_, rfl, pending_ite (pending_ite rfl (by simp)) rfl⟩
  | recordShifted => exact ⟨_, rfl, pending_ite (pending_ite (pending_ite (by simp) rfl) (pending_ite rfl rfl)) rfl⟩
  | tackEdge | tdoneEdge => exact ⟨_, rfl, pending_ite (by split <;> simp) rfl⟩
  | ackLimitExpiry => exact ⟨_, rfl, pending_ite (pending_ite (by simp) (by simp)) rfl⟩
  | tieLimitExpiry | statusWordComplete _ => exact ⟨_, rfl, pending_ite (by simp) rfl⟩
  -- the status port
  | snapshot | sselRelease => exact ⟨_, rfl, rfl⟩
  | ackPress | lampFlashToggle => exact ⟨_, rfl, pending_ite rfl rfl⟩

/-- Settles O3: no arm of the dispatch ends in a fault or a refusal, and none reads or changes the waiting commands. -/
theorem everyCommandAnswersANextState : Obligations.EveryCommandAnswersANextState :=
  fun c _ => exec_next_pending c

/-! ### The step with a command waiting -/

theorem step_takes_front {c : Instr} {rest : List Instr} (hp : s.pending = c :: rest) :
    step s = exec c { s with pending := rest } := by
  rw [step, hp]

/-- Settles O1, by the first case of the step: a command stands at the queue's front. -/
theorem stepRunsTheFrontCommand : Obligations.StepRunsTheFrontCommand :=
  fun _ _ _ hp => step_takes_front hp

end Sys2Proof.Machine
end
